-- ==== Sys2Proof/Word.lean ====
section
/-! DEFINITION. The word types of the CX-414 (chapter 0, Units and Number Conventions): bytes of the serial link, points of
the plane in path units, and the bounded indexes of the part's tables. -/

namespace Sys2Proof

/-- One byte of the serial link or of a machine-side message. -/
abbrev Byte := BitVec 8

/-- A position (or a displacement) in pu on the two axes (chapter 0). -/
structure Point where
  x : Int
  y : Int
deriving DecidableEq, Repr, Inhabited

/-- A cavity id, 0 to 63 (R25). -/
abbrev CavityId := Fin 64

/-- A pass index, 0 to 3 (R25). -/
abbrev PassIx := Fin 4

/-- A feed class index, 0 to 7 (R64). -/
abbrev ClassIx := Fin 8

/-- An event code, 0 to 63 (chapter 9.1). -/
abbrev Code := Fin 64

/-- The action set of an event map entry, in the form the host writes and reads it (chapter 11.3): a u32, one bit an action. -/
abbrev ActionSet := BitVec 32

end Sys2Proof
end

