-- ==== Sys2Proof/Config.lean ====
section
/-! DEFINITION. The constants the reference fixes for every part: sizes of lists and tables, fixed timeouts, ranges; and the
points on which its rules differ, free values (`separationCeasesAtEnd`, `separationHoldsAtHole`, `dryStopsAtCutState`,
`haltKeepsNotices`). -/

namespace Sys2Proof.Config

/-- The SYNC byte that starts a frame (chapter 1.1). -/
def sync : Byte := 0xC3#8
/-- The largest LENGTH of a frame (chapter 1.1, R2). -/
def maxPayload : Nat := 250
/-- Entries of the request list (R4). -/
def requestSlots : Nat := 4
/-- Entries of the reply list (R6). -/
def replySlots : Nat := 4
/-- Entries of the notice queue (R9). -/
def noticeSlots : Nat := 16
/-- Records of the log (R175). -/
def logSlots : Nat := 256
/-- Slots of the segment pool (R38). -/
def poolSlots : Nat := 2048
/-- Inter-byte gap of the receive framer, ms (R2). -/
def gapTime : Nat := 5
/-- Silence timer of the generator watch, ms (R63). -/
def silenceTime : Nat := 10
/-- Reply timer of the drive watch, ms (R85). -/
def driveReplyTime : Nat := 5
/-- Wait for the cutter's home, ms (R109). -/
def homeWaitTime : Nat := 500
/-- Lead-in segments a pass 0 may hold (R45, R56). -/
def maxLeadIn : Nat := 32
/-- Bridge segments from HOLD on (R45, R56). -/
def maxBridge : Nat := 64
/-- CUT segments a chain holds after a retirement (R52). -/
def maxHeldCut : Nat := 16
/-- Lowest coordinate (chapter 0). -/
def coordMin : Int := -8388608
/-- Highest coordinate (chapter 0). -/
def coordMax : Int := 8388607
/-- Largest magnitude of a segment delta (R40). -/
def deltaMax : Int := 2000000
/-- Largest end offset of a chain (R45). -/
def offsetMax : Nat := 4294967295
/-- Fixed bound of a search offset component (R104). -/
def searchBound : Int := 2000
/-- Largest retract run count (R66). -/
def maxRun : Nat := 65535

/-- FREE VALUE: the separation chain ceases at its end (R154), not only when its cavity leaves SEPARATING (R39, R151). The
rules differ and no ruling stands, so nothing says which (notes/assumptions/14.md). -/
opaque separationCeasesAtEnd : Bool

/-- FREE VALUE: after the separation chain the commanded position is held at the start hole (R96), not where the chain ends, at the
pass-0 hold point (R77, R152, chapter 12.7). The rules differ and no ruling stands, so nothing says which
(notes/assumptions/35.md). -/
opaque separationHoldsAtHole : Bool

/-- FREE VALUE: the mode boundary of a dry window also counts a segment of mode CUT that is already in state CUT, so that dry
windows after a retract end where cut windows resume (R69, R153), not ENGAGED segments alone (R73, R75). The rules differ and no
ruling stands, so nothing says which (notes/assumptions/30.md). -/
opaque dryStopsAtCutState : Bool

/-- FREE VALUE: JOB_ABORT and HALT leave in its queue the PROGRESS notice of a chain that ceases with the active cavity, as they
change no other link port state (R16); otherwise its unreported advance is dropped and never reported (R59, R61). The rules differ
and no ruling stands, so nothing says which (notes/assumptions/36.md). -/
opaque haltKeepsNotices : Bool

/-- The request KINDs of the catalogue (chapter 11.2). -/
def requestKinds : List Byte :=
  [0x01#8, 0x02#8, 0x10#8, 0x11#8, 0x18#8, 0x19#8, 0x1A#8, 0x1B#8, 0x1C#8] ++
  [0x20#8, 0x21#8, 0x22#8, 0x23#8, 0x24#8, 0x25#8, 0x28#8, 0x29#8, 0x2A#8, 0x2B#8] ++
  [0x30#8, 0x31#8, 0x38#8, 0x39#8, 0x40#8, 0x41#8, 0x42#8, 0x43#8, 0x48#8, 0x49#8] ++
  [0x4C#8, 0x4D#8, 0x50#8, 0x51#8]

end Sys2Proof.Config
end

