-- ==== Sys2Proof/Syntax.lean ====
section
/-! DEFINITION. The commands of the CX-414: one constructor for every row of spec/opcode_table.json, in the table's order. A
request row carries the TAG and the payload bytes of the frame that is decided; an event row carries what the event brings. -/

namespace Sys2Proof

/-- The levels of the part's input pins (chapter 0, Machine-Side Connections), each true when high; RESET_N stands apart. -/
structure Pins where
  /-- First rate strap pin (R1). -/
  strap1 : Bool
  /-- Second rate strap pin (R1). -/
  strap2 : Bool
  serviceEn : Bool
  passSense : Bool
  tensionSense : Bool
  cutterHome : Bool
  clampSense : Bool
  interlock : Bool
  dielectricOk : Bool
  spoolLow : Bool
  /-- EXT_IN0 to EXT_IN7, bit n for EXT_INn. -/
  ext : BitVec 8
deriving DecidableEq, Repr

/-- The commands, one constructor a row of the table. -/
inductive Instr where
  /-- POWER_ON (R16). `resetN` is the level of RESET_N, `pins` the levels the part samples when it begins operation. -/
  | powerOn (resetN : Bool) (pins : Pins)
  /-- RESET_N_ASSERT (R16). -/
  | resetNAssert
  /-- RESET_N_RELEASE (R16). `pins` are the levels the part samples. -/
  | resetNRelease (pins : Pins)
  /-- FRAME_RECEIVE (R3). `bytes` are the bytes of the frame the framer has not yet gathered, the last CRC byte last. -/
  | frameReceive (bytes : List Byte)
  /-- INTER_BYTE_GAP_EXPIRY (R2). -/
  | interByteGapExpiry
  /-- FRAME_TRANSMIT_END (R7). -/
  | frameTransmitEnd
  /-- UNKNOWN_KIND_REQUEST (R4). -/
  | unknownKindRequest (kind tag : Byte) (payload : List Byte)
  /-- STATUS (R177). Request KIND 0x01. -/
  | status (tag : Byte) (payload : List Byte)
  /-- RESET (R15). Request KIND 0x02. -/
  | reset (tag : Byte) (payload : List Byte)
  /-- LIMITS_SET (R13). Request KIND 0x10. `service` is the level of SERVICE_EN read at the moment of the decision (R12). -/
  | limitsSet (service : Bool) (tag : Byte) (payload : List Byte)
  /-- LIMITS_GET (R13). Request KIND 0x11. -/
  | limitsGet (tag : Byte) (payload : List Byte)
  /-- FEED_CLASS_SET (R64). Request KIND 0x18. -/
  | feedClassSet (tag : Byte) (payload : List Byte)
  /-- FEED_CLASS_GET (R64). Request KIND 0x19. -/
  | feedClassGet (tag : Byte) (payload : List Byte)
  /-- OVERRIDE_SET (R65). Request KIND 0x1C. -/
  | overrideSet (tag : Byte) (payload : List Byte)
  /-- THREAD_PROFILE_SET (R104). Request KIND 0x1A. -/
  | threadProfileSet (tag : Byte) (payload : List Byte)
  /-- THREAD_PROFILE_GET (R104). Request KIND 0x1B. -/
  | threadProfileGet (tag : Byte) (payload : List Byte)
  /-- JOB_OPEN (R19). Request KIND 0x20. -/
  | jobOpen (tag : Byte) (payload : List Byte)
  /-- JOB_START (R20). Request KIND 0x21. -/
  | jobStart (tag : Byte) (payload : List Byte)
  /-- JOB_PAUSE (R21). Request KIND 0x22. -/
  | jobPause (tag : Byte) (payload : List Byte)
  /-- JOB_RESUME (R22). Request KIND 0x23. -/
  | jobResume (tag : Byte) (payload : List Byte)
  /-- JOB_ABORT (R23). Request KIND 0x24. -/
  | jobAbort (tag : Byte) (payload : List Byte)
  /-- JOB_CLEAR (R24). Request KIND 0x25. -/
  | jobClear (tag : Byte) (payload : List Byte)
  /-- CAVITY_PLAN (R29). Request KIND 0x28. -/
  | cavityPlan (tag : Byte) (payload : List Byte)
  /-- CAVITY_MOVE (R30). Request KIND 0x29. -/
  | cavityMove (tag : Byte) (payload : List Byte)
  /-- CAVITY_ABANDON (R31). Request KIND 0x2A. -/
  | cavityAbandon (tag : Byte) (payload : List Byte)
  /-- CAVITY_QUERY (R178). Request KIND 0x2B. -/
  | cavityQuery (tag : Byte) (payload : List Byte)
  /-- SEG_APPEND (R43). Request KIND 0x30. -/
  | segAppend (tag : Byte) (payload : List Byte)
  /-- SEG_REVISE (R50). Request KIND 0x31. -/
  | segRevise (tag : Byte) (payload : List Byte)
  /-- SEPARATE (R33). Request KIND 0x38. -/
  | separate (tag : Byte) (payload : List Byte)
  /-- SLUG_RELEASE (R149). Request KIND 0x39. -/
  | slugRelease (tag : Byte) (payload : List Byte)
  /-- MAP_WRITE (R161). Request KIND 0x40. -/
  | mapWrite (tag : Byte) (payload : List Byte)
  /-- MAP_READ (R162). Request KIND 0x41. -/
  | mapRead (tag : Byte) (payload : List Byte)
  /-- MAP_SWAP (R163). Request KIND 0x42. -/
  | mapSwap (tag : Byte) (payload : List Byte)
  /-- EVENT_INJECT (R164). Request KIND 0x43. -/
  | eventInject (tag : Byte) (payload : List Byte)
  /-- CHANNEL_SET (R165). Request KIND 0x48. -/
  | channelSet (tag : Byte) (payload : List Byte)
  /-- CHANNEL_GET (R165). Request KIND 0x49. -/
  | channelGet (tag : Byte) (payload : List Byte)
  /-- INTERLOCK_CLEAR (R170). Request KIND 0x4C. -/
  | interlockClear (tag : Byte) (payload : List Byte)
  /-- INTERLOCK_MODE (R171). Request KIND 0x4D. -/
  | interlockMode (tag : Byte) (payload : List Byte)
  /-- CLOCK_SET (R173). Request KIND 0x50. -/
  | clockSet (tag : Byte) (payload : List Byte)
  /-- LOG_READ (R176). Request KIND 0x51. -/
  | logRead (tag : Byte) (payload : List Byte)
  /-- HEARTBEAT_EXPIRY (R11). -/
  | heartbeatExpiry
  /-- WINDOW_REPORT (R62). `msg` are the bytes of the message (chapter 11.6). -/
  | windowReport (msg : List Byte)
  /-- GEN_SILENCE_EXPIRY (R63). -/
  | genSilenceExpiry
  /-- DRIVE_REPLY (R85). `msg` are the bytes of the message (chapter 11.6). -/
  | driveReply (msg : List Byte)
  /-- DRIVE_REPLY_TIMER_EXPIRY (R85). -/
  | driveReplyTimerExpiry
  /-- ANNEAL_EXPIRY (R108). -/
  | annealExpiry
  /-- TRIM_PULSE_END (R109). `home` is the level of CUTTER_HOME read at that moment. -/
  | trimPulseEnd (home : Bool)
  /-- CUTTER_HOME_RISE (R109). -/
  | cutterHomeRise
  /-- CUTTER_HOME_TIMEOUT (R116). -/
  | cutterHomeTimeout
  /-- PASS_SENSE_RISE (R111). -/
  | passSenseRise
  /-- PASS_TIMEOUT (R113). -/
  | passTimeout
  /-- TENSION_SENSE_RISE (R112). -/
  | tensionSenseRise
  /-- TENSION_TIMEOUT (R113). -/
  | tensionTimeout
  /-- WITHDRAW_EXPIRY (R113). -/
  | withdrawExpiry
  /-- SEVER_PULSE_END (R115). `home` is the level of CUTTER_HOME read at that moment. -/
  | severPulseEnd (home : Bool)
  /-- SEVER_WITHDRAW_EXPIRY (R115). -/
  | severWithdrawExpiry
  /-- TENSION_SENSE_FALL (R117). -/
  | tensionSenseFall
  /-- CLAMP_SENSE_RISE (R142). -/
  | clampSenseRise
  /-- CLAMP_SENSE_FALL (R148). -/
  | clampSenseFall
  /-- CLAMP_WAIT_EXPIRY (R143). -/
  | clampWaitExpiry
  /-- INTERLOCK_FALL (R168). -/
  | interlockFall
  /-- INTERLOCK_RISE (R169). -/
  | interlockRise
  /-- DIELECTRIC_OK_FALL (R156). -/
  | dielectricOkFall
  /-- SPOOL_LOW_RISE (R156). -/
  | spoolLowRise
  /-- EXT_IN_EDGE (R156). `n` is the input, `rising` the direction. -/
  | extInEdge (n : Fin 8) (rising : Bool)
  /-- PULSE_DELAY_EXPIRY (R166). `ch` is the pulse channel. -/
  | pulseDelayExpiry (ch : Fin 4)
  /-- PULSE_WIDTH_EXPIRY (R166). `ch` is the pulse channel. -/
  | pulseWidthExpiry (ch : Fin 4)
  /-- PACING_TIMER_EXPIRY (R61). -/
  | pacingTimerExpiry
  /-- JOB_CLOCK_ADVANCE (R172). -/
  | jobClockAdvance
  /-- RECEIVED_BYTE (R2). `framingError` says that the stop bit was low (R1). -/
  | receivedByte (data : Byte) (framingError : Bool)
deriving DecidableEq, Repr

/-- The request a command decides, as (KIND, TAG, payload); none for a command that is no request (chapter 11.2). -/
def Instr.request : Instr → Option (Byte × Byte × List Byte)
  | .unknownKindRequest kind tag payload => some (kind, tag, payload)
  | .status tag payload => some (0x01#8, tag, payload)
  | .reset tag payload => some (0x02#8, tag, payload)
  | .limitsSet _ tag payload => some (0x10#8, tag, payload)
  | .limitsGet tag payload => some (0x11#8, tag, payload)
  | .feedClassSet tag payload => some (0x18#8, tag, payload)
  | .feedClassGet tag payload => some (0x19#8, tag, payload)
  | .overrideSet tag payload => some (0x1C#8, tag, payload)
  | .threadProfileSet tag payload => some (0x1A#8, tag, payload)
  | .threadProfileGet tag payload => some (0x1B#8, tag, payload)
  | .jobOpen tag payload => some (0x20#8, tag, payload)
  | .jobStart tag payload => some (0x21#8, tag, payload)
  | .jobPause tag payload => some (0x22#8, tag, payload)
  | .jobResume tag payload => some (0x23#8, tag, payload)
  | .jobAbort tag payload => some (0x24#8, tag, payload)
  | .jobClear tag payload => some (0x25#8, tag, payload)
  | .cavityPlan tag payload => some (0x28#8, tag, payload)
  | .cavityMove tag payload => some (0x29#8, tag, payload)
  | .cavityAbandon tag payload => some (0x2A#8, tag, payload)
  | .cavityQuery tag payload => some (0x2B#8, tag, payload)
  | .segAppend tag payload => some (0x30#8, tag, payload)
  | .segRevise tag payload => some (0x31#8, tag, payload)
  | .separate tag payload => some (0x38#8, tag, payload)
  | .slugRelease tag payload => some (0x39#8, tag, payload)
  | .mapWrite tag payload => some (0x40#8, tag, payload)
  | .mapRead tag payload => some (0x41#8, tag, payload)
  | .mapSwap tag payload => some (0x42#8, tag, payload)
  | .eventInject tag payload => some (0x43#8, tag, payload)
  | .channelSet tag payload => some (0x48#8, tag, payload)
  | .channelGet tag payload => some (0x49#8, tag, payload)
  | .interlockClear tag payload => some (0x4C#8, tag, payload)
  | .interlockMode tag payload => some (0x4D#8, tag, payload)
  | .clockSet tag payload => some (0x50#8, tag, payload)
  | .logRead tag payload => some (0x51#8, tag, payload)
  | .powerOn _ _ => none
  | .resetNAssert => none
  | .resetNRelease _ => none
  | .frameReceive _ => none
  | .interByteGapExpiry => none
  | .frameTransmitEnd => none
  | .heartbeatExpiry => none
  | .windowReport _ => none
  | .genSilenceExpiry => none
  | .driveReply _ => none
  | .driveReplyTimerExpiry => none
  | .annealExpiry => none
  | .trimPulseEnd _ => none
  | .cutterHomeRise => none
  | .cutterHomeTimeout => none
  | .passSenseRise => none
  | .passTimeout => none
  | .tensionSenseRise => none
  | .tensionTimeout => none
  | .withdrawExpiry => none
  | .severPulseEnd _ => none
  | .severWithdrawExpiry => none
  | .tensionSenseFall => none
  | .clampSenseRise => none
  | .clampSenseFall => none
  | .clampWaitExpiry => none
  | .interlockFall => none
  | .interlockRise => none
  | .dielectricOkFall => none
  | .spoolLowRise => none
  | .extInEdge _ _ => none
  | .pulseDelayExpiry _ => none
  | .pulseWidthExpiry _ => none
  | .pacingTimerExpiry => none
  | .jobClockAdvance => none
  | .receivedByte _ _ => none

end Sys2Proof
end

