-- ==== Sys2Proof/Decode.lean ====
section
/-! DEFINITION. The command that a word of the opcode table spells. No row of the table gives bits: the part's commands are steps
of its link and its pins, not encoded instructions. -/

namespace Sys2Proof

/-- No row of the table gives a word any bits, so no word spells a command. -/
def decodeTableWord (_nbits _w : Nat) : Option Instr := none

end Sys2Proof
end

