-- ==== Sys2Proof/Machine/State.lean ====
section
/-! DEFINITION. The state of the CX-414: every piece of state the reference gives the part, block by block (chapter 0, Block
Overview), as plain data, and its value after reset. Fields marked MODEL are the model's own book-keeping (notes/assumptions). -/

namespace Sys2Proof.Machine

/-! ### Link port (chapter 1) -/

/-- A frame without SYNC, LENGTH and CRC, which follow from it (chapter 11.2). -/
structure Frame where
  kind : Byte
  tag : Byte
  payload : List Byte
deriving DecidableEq, Repr

/-- The receive framer (R2): HUNTING, or COLLECTING with the bytes gathered after SYNC, in order. -/
inductive Framer where
  | hunting
  | collecting (got : List Byte)
deriving DecidableEq, Repr

/-- A chain of the active cavity (R38, R39). -/
inductive ChainRef where
  | pass (k : PassIx)
  | reroute
  | separation
deriving DecidableEq, Repr

/-- What an EVENT notice and a log record say of an event besides its code (R8, R174). -/
structure EventContent where
  cavity : Option CavityId
  chain : Option ChainRef
  offset : Nat
  detail : Nat
  clock : BitVec 32
deriving DecidableEq, Repr

/-- What a PROGRESS notice says (R8, R61); `serial` (MODEL) names the chain whose retired count it carries. -/
structure ProgressContent where
  cavity : CavityId
  chain : ChainRef
  h : Nat
  retired : Nat
  free : Nat
  serial : Nat
deriving DecidableEq, Repr

/-- A notice of the notice queue (R9). -/
inductive Notice where
  | event (code : Code) (content : EventContent)
  | progress (content : ProgressContent)
deriving DecidableEq, Repr

/-- The link port (R1 to R16). A timer is none while stopped and holds the length it was started with while it runs. -/
structure Link where
  /-- Line rate in baud, from the strap pins (R1). -/
  rate : Nat
  framer : Framer
  /-- Inter-byte gap timer, ms (R2). -/
  gapTimer : Option Nat
  /-- Request list, oldest first (R4). -/
  requests : List Frame
  /-- Reply list, oldest first (R6). -/
  replies : List Frame
  /-- Notice queue, head first (R9). -/
  notices : List Notice
  /-- The frame in transmission; none while the transmitter is idle (R7). -/
  sending : Option Frame
  /-- Heartbeat timer, ms (R10). -/
  heartbeat : Option Nat
  /-- A RESET request has been decided and its reply not yet sent (R15). -/
  resetting : Bool
deriving DecidableEq, Repr

/-- The machine limits record (R13). -/
structure Limits where
  feedCeil : Nat
  retraceCeil : Nat
  jetCeil : Nat
  annealCeil : Nat
  rapidCeil : Nat
  attemptCeil : Nat
deriving DecidableEq, Repr

/-! ### Job table (chapter 2) -/

inductive JobState where
  | idle | loading | running | paused | halted | complete
deriving DecidableEq, Repr

inductive FaultPolicy where
  | skip | halt
deriving DecidableEq, Repr

inductive SeparationPolicy where
  | atEnd | onRequest
deriving DecidableEq, Repr

inductive ResumePolicy where
  | atBreak | atSegmentStart
deriving DecidableEq, Repr

/-- The job parameters (R19). -/
structure JobParams where
  faultPolicy : FaultPolicy
  separationPolicy : SeparationPolicy
  resumePolicy : ResumePolicy
  retrace : Nat
  drySpeed : Nat
  rapidSpeed : Nat
  clampWait : Nat
  breakLimit : Nat
  heartbeat : Nat
  pacing : Nat
deriving DecidableEq, Repr

/-- The pause-reason set (R21). -/
structure Reasons where
  host : Bool
  event : Bool
  interlock : Bool
  linkSilent : Bool
deriving DecidableEq, Repr

/-- The job record (R18) and the cavity in an active state, if any (R26). -/
structure Job where
  state : JobState
  params : Option JobParams
  reasons : Reasons
  active : Option CavityId
deriving DecidableEq, Repr

inductive Method where
  | none | bridge | clamp
deriving DecidableEq, Repr

inductive CavState where
  | planned | threading | cutting | breakRecovery | retained | separating | done | faulted | skipped
deriving DecidableEq, Repr

inductive FaultReason where
  | threadExhausted | breakLimit | hostAbandon | abort | halted | separationBreak | geometry
deriving DecidableEq, Repr

inductive PassState where
  | notStarted | active | atHold | complete
deriving DecidableEq, Repr

/-! ### Segment store (chapter 3) -/

inductive SegMode where
  | cut | dry
deriving DecidableEq, Repr

inductive SegState where
  | queued | engaged | cut | leadIn | parked
deriving DecidableEq, Repr

/-- A stored segment (R40, R41). -/
structure Segment where
  seq : Nat
  dx : Int
  dy : Int
  feedClass : ClassIx
  mode : SegMode
  entry : Bool
  hold : Bool
  close : Bool
  /-- Start offset s0 (R41). -/
  s0 : Nat
  /-- Length L (R41). -/
  len : Nat
  start : Point
  stop : Point
  state : SegState
deriving DecidableEq, Repr

/-- A chain's book-keeping and the segments it holds, in path order (R38, R39, R41). -/
structure Chain where
  segs : List Segment
  appended : Nat
  /-- Next expected sequence. -/
  nextSeq : Nat
  closed : Bool
  holdOffset : Option Nat
  /-- The hold point; (0, 0) while there is no hold offset. -/
  holdPoint : Point
  /-- End offset of the last appended segment, 0 while there is none (R41). -/
  endOffset : Nat
  /-- End point of the last appended segment; (0, 0) while there is none. -/
  endPoint : Point
  /-- Retrace depth, fixed at the chain start (R39). -/
  depth : Nat
  retired : Nat
  /-- Reported retired count (R61). -/
  reported : Nat
  /-- Sequence of the ENTRY segment once it is accepted (R45). -/
  entrySeq : Option Nat
  /-- Pass-0 segments accepted before ENTRY (R45). -/
  leadInCount : Nat
  /-- Pass-0 segments accepted from HOLD on (R45). -/
  bridgeCount : Nat
  /-- MODEL: the chain's own number, so that a notice names one chain only. -/
  serial : Nat
deriving DecidableEq, Repr

/-- A chain before its first segment. -/
def Chain.new (serial : Nat) : Chain :=
  { segs := [], appended := 0, nextSeq := 0, closed := false, holdOffset := none, holdPoint := ⟨0, 0⟩, endOffset := 0,
    endPoint := ⟨0, 0⟩, depth := 0, retired := 0, reported := 0, entrySeq := none, leadInCount := 0, bridgeCount := 0,
    serial := serial }

/-- A pass record (R25). -/
structure PassRec where
  state : PassState
  savedP : Nat
  savedH : Nat
  chain : Chain
deriving DecidableEq, Repr

/-- A cavity record (R25) with its lead-in list and its bridge stack, each in path order (R56, R57). -/
structure Cavity where
  tag : BitVec 32
  hole : Point
  profile : Fin 4
  planned : Method
  effective : Option Method
  passCount : Nat
  sepClass : ClassIx
  state : CavState
  currentPass : PassIx
  passes : Vector PassRec 4
  breakCount : Nat
  attemptsUsed : Nat
  fault : Option FaultReason
  bridgeLength : Option Nat
  sepSelected : Bool
  leadIn : List Segment
  bridge : List Segment
deriving DecidableEq, Repr

/-- A chain that belongs to one cavity: the reroute chain or the separation chain (R39, R151). -/
structure OwnedChain where
  owner : CavityId
  chain : Chain
deriving DecidableEq, Repr

/-- The segment store apart from the chains its cavities own (R38, R39, R61). -/
structure Store where
  /-- Pool free count. -/
  free : Nat
  reroute : Option OwnedChain
  separation : Option OwnedChain
  /-- Pacing timer, ms. -/
  pacing : Option Nat
  /-- MODEL: the next chain number. -/
  nextSerial : Nat
deriving DecidableEq, Repr

/-! ### Cut engine (chapters 4 and 5) -/

inductive EngineState where
  | idle | rapid | cutting | starved | clampWait | paused | broken
deriving DecidableEq, Repr

/-- A feed class entry (R64). -/
structure FeedClass where
  cap : Nat
  accel : Nat
  retract : Nat
  energy : Nat
  theta : Nat
deriving DecidableEq, Repr

/-- Four per-mille fractions, in the order O, N, A, S (R66). -/
structure Fractions where
  o : Nat
  n : Nat
  a : Nat
  s : Nat
deriving DecidableEq, Repr

/-- Who asked for a rapid move, and so who is handed its arrival (R76, R81, R97, R110). -/
inductive MovePurpose where
  | sequencer | position | toHole | chainSeat | restoreSeat
deriving DecidableEq, Repr

/-- A rapid move (R76) with the state the engine returns to at its arrival, or a path traverse (R97). -/
inductive Move where
  | rapid (origin target : Point) (q : Nat) (purpose : MovePurpose) (back : EngineState)
  | traverse (target : Nat)
deriving DecidableEq, Repr

/-- A set-point as sent to the drives (R83, chapter 11.6). -/
structure SetPoint where
  pos : Point
  track : Bool
deriving DecidableEq, Repr

/-- The cut engine (R66, R78). `p`, `h` and `floor` are 0 while no chain is active. -/
structure Engine where
  state : EngineState
  chain : Option ChainRef
  p : Nat
  h : Nat
  floor : Nat
  prevStep : Nat
  run : Nat
  reference : Option Fractions
  commanded : Point
  move : Option Move
  /-- The state a PAUSED engine returns to (R99). -/
  resume : Option EngineState
  /-- GEN_EN output (R86). -/
  genEn : Bool
  /-- Energy index output (R86). -/
  energy : Nat
  /-- The feed class whose index the output carries (R86). -/
  energyClass : Option ClassIx
  /-- The last set-point sent (R83). -/
  setPoint : Option SetPoint
deriving DecidableEq, Repr

/-- A watch with a timer and a latch: the generator watch (R63), the drive watch (R85). -/
structure Watch where
  timer : Option Nat
  latch : Bool
deriving DecidableEq, Repr

/-! ### Threading unit (chapter 6) -/

/-- A threading profile (R103). -/
structure Profile where
  anneal : Nat
  trim : Nat
  jetBase : Nat
  jetStep : Nat
  passTimeout : Nat
  attempts : Nat
  tensionTimeout : Nat
  withdraw : Nat
  kerfAttempts : Nat
  kerfJet : Nat
  offsets : List Point
deriving DecidableEq, Repr

inductive ThreadState where
  | idle | anneal | trim | position | jet | tension | withdraw | threaded | sever | failed
deriving DecidableEq, Repr

/-- The four purposes of a threading (R107). -/
inductive Purpose where
  | cutting | separation | recovery | kerf
deriving DecidableEq, Repr

/-- The threading in progress (R105). -/
structure Attempting where
  purpose : Purpose
  target : Point
  attempt : Nat
  cavity : CavityId
deriving DecidableEq, Repr

inductive SeverForm where
  | full | stub
deriving DecidableEq, Repr

inductive SeverPhase where
  | pulse | homeWait | withdraw
deriving DecidableEq, Repr

/-- Who is handed the end of a SEVER (R115, R121); `machine` is the SEVER of an abandonment or a fault. -/
inductive SeverFor where
  | lastPass | separation | preThread | stubCut | machine
deriving DecidableEq, Repr

/-- The SEVER in progress (R105, R115) with the cavity whose profile it reads. -/
structure Severing where
  form : SeverForm
  phase : SeverPhase
  purpose : SeverFor
  cavity : CavityId
deriving DecidableEq, Repr

/-- What follows a WITHDRAW (R113, R120). -/
inductive WithdrawThen where
  | nextAttempt | failed | idle
deriving DecidableEq, Repr

structure Withdrawing where
  next : WithdrawThen
  cavity : CavityId
deriving DecidableEq, Repr

/-- Where a suspended unit begins again (R116, R118). -/
inductive RestartPoint where
  | attempt | withdraw | cutPhase | severWithdraw
deriving DecidableEq, Repr

/-- A full SEVER or a WITHDRAW that waits for the job to return to RUNNING (R119, R120). -/
inductive Deferred where
  | sever (cavity : CavityId)
  | withdraw (cavity : CavityId)
deriving DecidableEq, Repr

/-- The unit's outputs (R105); the level lines carry 0 while the jet is off. -/
structure ThreadOut where
  anneal : Bool
  cutter : Bool
  jet : Bool
  jetLevel : Nat
  feedFwd : Bool
  feedRev : Bool
  tensionEngage : Bool
deriving DecidableEq, Repr

/-- All outputs off. -/
def ThreadOut.off : ThreadOut :=
  { anneal := false, cutter := false, jet := false, jetLevel := 0, feedFwd := false, feedRev := false,
    tensionEngage := false }

/-- The threading unit (R105). -/
structure Threading where
  state : ThreadState
  wireIn : Bool
  work : Option Attempting
  /-- TRIM: the pulse has ended and the cutter's home is awaited (R109). -/
  homeWait : Bool
  sever : Option Severing
  withdraw : Option Withdrawing
  /-- Step timer, ms. -/
  timer : Option Nat
  /-- The restart mark and its restart point (R105, R118). -/
  restart : Option RestartPoint
  deferred : Option Deferred
  out : ThreadOut
deriving DecidableEq, Repr

/-! ### Recovery unit (chapter 7) -/

inductive Stage where
  | none | stubCut | kerfThread | toHole | holeThread | awaitReroute | reroute | resuming
deriving DecidableEq, Repr

/-- A point on a pass chain: its offset and its position (R122). -/
structure PathPoint where
  offset : Nat
  pos : Point
deriving DecidableEq, Repr

/-- The recovery unit (R122). -/
structure Recovery where
  stage : Stage
  breakPoint : Option PathPoint
  resumePoint : Option PathPoint
  inKerf : Nat
  closePending : Bool
  startPending : Bool
deriving DecidableEq, Repr

/-- No recovery in progress (R122). -/
def Recovery.idle : Recovery :=
  { stage := .none, breakPoint := none, resumePoint := none, inKerf := 0, closePending := false, startPending := false }

/-! ### Retention unit (chapter 8) -/

/-- The clamp resource (R138). -/
inductive Clamp where
  | free
  | requested (owner : CavityId)
  | held (owner : CavityId)
deriving DecidableEq, Repr

structure Retention where
  clamp : Clamp
  /-- CLAMP_REQ output (R138). -/
  clampReq : Bool
  /-- Clamp wait timer, ms (R140). -/
  timer : Option Nat
deriving DecidableEq, Repr

/-! ### Event map, interlock, output channels (chapter 9), log and clock (chapter 10) -/

inductive MapName where
  | a | b
deriving DecidableEq, Repr

structure EventMap where
  mapA : Vector ActionSet 64
  mapB : Vector ActionSet 64
  active : MapName
deriving DecidableEq, Repr

inductive Polarity where
  | high | low
deriving DecidableEq, Repr

/-- A pulse channel configuration; times in units of 0.1 ms (R165). -/
structure ChannelConfig where
  delay : Nat
  width : Nat
  polarity : Polarity
deriving DecidableEq, Repr

inductive ChannelState where
  | idle | delaying | active
deriving DecidableEq, Repr

/-- A pulse channel (R165); `output` is the level of its pin, `timer` counts units of 0.1 ms. -/
structure Channel where
  stored : ChannelConfig
  inForce : ChannelConfig
  state : ChannelState
  timer : Option Nat
  output : Bool
deriving DecidableEq, Repr

inductive InterlockMode where
  | follow | latch
deriving DecidableEq, Repr

structure Interlock where
  mode : InterlockMode
  latched : Bool
deriving DecidableEq, Repr

/-- A log record (R174). -/
structure LogRecord where
  code : Code
  content : EventContent
  discontinuity : Bool
deriving DecidableEq, Repr

/-- MODEL: a raised code whose actions other than LOG and NOTIFY are still to be handed (R158). -/
structure Raised where
  code : Code
  actions : ActionSet
deriving DecidableEq, Repr

/-- Power and the level of RESET_N (R16). -/
structure Power where
  valid : Bool
  resetN : Bool
deriving DecidableEq, Repr

/-- The whole state of the part, and the queue of commands that wait for it. -/
structure State where
  pending : List Instr
  power : Power
  /-- Input levels as sampled and changed by edges (R106, R142, R156, R171). -/
  pins : Pins
  link : Link
  limits : Option Limits
  job : Job
  /-- The cavity table, indexed by id (R25). -/
  cavities : Vector (Option Cavity) 64
  runOrder : List CavityId
  sepQueue : List CavityId
  store : Store
  engine : Engine
  feed : Vector FeedClass 8
  /-- Override, percent (R65). -/
  feedOverride : Nat
  genWatch : Watch
  driveWatch : Watch
  profiles : Vector Profile 4
  threading : Threading
  recovery : Recovery
  retention : Retention
  maps : EventMap
  channels : Vector Channel 4
  /-- Level outputs 0 to 3, true when active (R167). -/
  levels : Vector Bool 4
  interlock : Interlock
  log : List LogRecord
  clock : BitVec 32
  /-- MODEL: codes raised in the command in hand, oldest first; empty between commands. -/
  raised : List Raised
deriving DecidableEq, Repr

/-- Why the part stops. The reference names no condition in which the part stops and no access that fails, so no
meaning answers with a fault: the type has no constructor (safe). -/
inductive Fault where
deriving DecidableEq, Repr

/-- Why a command has no meaning. -/
inductive Refusal where
  /-- Raised by an arm of exec for a command that is not modelled; no arm does so (safe). -/
  | notModelled (mnemonic : String)
deriving DecidableEq, Repr

/-! ### Reset values -/

/-- The default feed class (R64). -/
def FeedClass.default : FeedClass := { cap := 100, accel := 10, retract := 20, energy := 4, theta := 2000 }

/-- The default threading profile (R103). -/
def Profile.default : Profile :=
  { anneal := 300, trim := 40, jetBase := 3, jetStep := 1, passTimeout := 2000, attempts := 5, tensionTimeout := 500,
    withdraw := 300, kerfAttempts := 2, kerfJet := 5, offsets := [⟨0, 0⟩] }

/-- The default pulse channel configuration (R165). -/
def ChannelConfig.default : ChannelConfig := { delay := 0, width := 10, polarity := .high }

/-- A pulse channel after reset (R165). -/
def Channel.default : Channel :=
  { stored := .default, inForce := .default, state := .idle, timer := none, output := false }

/-- The default map entry of code `n` (R160): the locked set of R159, LOG with NOTIFY, LOG, or nothing. -/
def defaultEntry (n : Nat) : ActionSet :=
  if n = 1 then 0x11#32
  else if n = 6 ∨ n = 22 then 0x03#32
  else if n = 7 ∨ n = 10 ∨ n = 12 ∨ n = 23 then 0x07#32
  else if n = 9 then 0x0B#32
  else if n = 13 ∨ n = 14 then 0x05#32
  else if n = 17 ∨ n = 18 ∨ n = 19 ∨ n = 20 ∨ n = 21 ∨ n = 24 ∨ n = 25 then 0x03#32
  else if n = 2 ∨ n = 3 ∨ n = 4 ∨ n = 5 ∨ n = 8 ∨ n = 11 ∨ n = 15 ∨ n = 16 then 0x01#32
  else 0

/-- A map with the default content (R160). -/
def defaultMap : Vector ActionSet 64 := Vector.ofFn fun i => defaultEntry i.val

/-- The line rate that the strap pins select (R1). -/
def strapRate (pins : Pins) : Nat :=
  match pins.strap2, pins.strap1 with
  | false, false => 115200
  | false, true => 460800
  | true, false => 921600
  | true, true => 2000000

/-- Every block in its power-on state (R16 and the chapters' reset rules), with the silence timer of R63 stopped, as it is
until the part begins operation. -/
def State.powerOnState (pending : List Instr) (power : Power) (pins : Pins) (rate : Nat) : State :=
  { pending := pending
    power := power
    pins := pins
    link :=
      { rate := rate, framer := .hunting, gapTimer := none, requests := [], replies := [], notices := [], sending := none,
        heartbeat := none, resetting := false }
    limits := none
    job := { state := .idle, params := none, reasons := ⟨false, false, false, false⟩, active := none }
    cavities := Vector.replicate 64 none
    runOrder := []
    sepQueue := []
    store := { free := Config.poolSlots, reroute := none, separation := none, pacing := none, nextSerial := 0 }
    engine :=
      { state := .idle, chain := none, p := 0, h := 0, floor := 0, prevStep := 0, run := 0, reference := none,
        commanded := ⟨0, 0⟩, move := none, resume := none, genEn := false, energy := 0, energyClass := none,
        setPoint := none }
    feed := Vector.replicate 8 .default
    feedOverride := 100
    genWatch := { timer := none, latch := false }
    driveWatch := { timer := none, latch := false }
    profiles := Vector.replicate 4 .default
    threading :=
      { state := .idle, wireIn := false, work := none, homeWait := false, sever := none, withdraw := none, timer := none,
        restart := none, deferred := none, out := .off }
    recovery := .idle
    retention := { clamp := .free, clampReq := false, timer := none }
    maps := { mapA := defaultMap, mapB := defaultMap, active := .a }
    channels := Vector.replicate 4 .default
    levels := Vector.replicate 4 false
    interlock := { mode := .follow, latched := false }
    log := []
    clock := 0
    raised := [] }

/-- The levels the model takes at the input pins of the reset state: all low (DESIGN CHOICE, notes/assumptions/8.md). -/
def Pins.allLow : Pins :=
  { strap1 := false, strap2 := false, serviceEn := false, passSense := false, tensionSense := false, cutterHome := false,
    clampSense := false, interlock := false, dielectricOk := false, spoolLow := false, ext := 0 }

/-- The machine right after reset: power valid, RESET_N high, every block in its power-on state, the part just begun to
operate with its silence timer running (R16, R63). -/
def State.reset : State :=
  { State.powerOnState [] ⟨true, true⟩ Pins.allLow (strapRate Pins.allLow) with
    genWatch := { timer := some Config.silenceTime, latch := false } }

end Sys2Proof.Machine
end

