-- ==== Sys2Proof/Machine/Bytes.lean ====
section
/-! DEFINITION. Byte order (R179), the frame check (R3), the frame layout (chapter 11.2), and the integer arithmetic of
chapter 0: the integer square root and the truncating division. -/

namespace Sys2Proof.Machine

/-- Every entry of a table changed by `f`. It is a list's map, so that the kernel evaluates it. -/
def mapTable {α : Type} {n : Nat} (f : α → α) (v : Vector α n) : Vector α n := ⟨(v.toList.map f).toArray, by simp⟩

/-- Byte `n` of a payload. -/
def byteAt (bs : List Byte) (n : Nat) : Nat := (bs.getD n 0).toNat

/-- A u16 at offset `n`, least significant byte first (R179). -/
def u16At (bs : List Byte) (n : Nat) : Nat := byteAt bs n + 256 * byteAt bs (n + 1)

/-- A u32 at offset `n` (R179). -/
def u32At (bs : List Byte) (n : Nat) : Nat := u16At bs n + 65536 * u16At bs (n + 2)

/-- An s16 at offset `n`, two's complement (R179). -/
def s16At (bs : List Byte) (n : Nat) : Int := (BitVec.ofNat 16 (u16At bs n)).toInt

/-- An s32 at offset `n`, two's complement (R179). -/
def s32At (bs : List Byte) (n : Nat) : Int := (BitVec.ofNat 32 (u32At bs n)).toInt

/-- A u8 field. -/
def enc8 (n : Nat) : List Byte := [BitVec.ofNat 8 n]

/-- A u16 field, least significant byte first (R179). -/
def enc16 (n : Nat) : List Byte := enc8 n ++ enc8 (n / 256)

/-- A u32 field (R179). -/
def enc32 (n : Nat) : List Byte := enc16 n ++ enc16 (n / 65536)

/-- An s16 field (R179). -/
def encS16 (i : Int) : List Byte := enc16 (BitVec.ofInt 16 i).toNat

/-- An s32 field (R179). -/
def encS32 (i : Int) : List Byte := enc32 (BitVec.ofInt 32 i).toNat

/-- A flag as a byte's bit `n`. -/
def flagBit (b : Bool) (n : Nat) : Nat := if b then 2 ^ n else 0

/-- One bit of the CRC-16 with polynomial 0x1021, no reflection (R3). -/
def crcBit (crc : BitVec 16) : BitVec 16 :=
  if crc.msb then (crc <<< 1) ^^^ 0x1021#16 else crc <<< 1

/-- One byte of the CRC-16: the byte enters at the top, most significant bit first. -/
def crcByte (crc : BitVec 16) (b : Byte) : BitVec 16 :=
  let c := crc ^^^ ((b.setWidth 16) <<< 8)
  crcBit (crcBit (crcBit (crcBit (crcBit (crcBit (crcBit (crcBit c)))))))

/-- The frame check: initial value 0xFFFF, no final XOR (R3). -/
def crc16 (bs : List Byte) : BitVec 16 := bs.foldl crcByte 0xFFFF#16

/-- The bytes of a frame that the check covers: LENGTH, KIND, TAG, payload (R3). -/
def Frame.body (f : Frame) : List Byte :=
  BitVec.ofNat 8 f.payload.length :: f.kind :: f.tag :: f.payload

/-- The whole frame as it stands on the line (chapter 11.2). -/
def Frame.bytes (f : Frame) : List Byte :=
  Config.sync :: (f.body ++ enc16 (crc16 f.body).toNat)

/-- The integer square root, one result bit a step from bit `n - 1` down. -/
def isqrtFrom : Nat → Nat → Nat → Nat
  | 0, _, r => r
  | n + 1, v, r =>
    let t := r + 2 ^ n
    if t * t ≤ v then isqrtFrom n v t else isqrtFrom n v r

/-- The integer square root rounded down (chapter 0, R41). -/
def isqrt (v : Nat) : Nat := isqrtFrom (v.log2 / 2 + 1) v 0

/-- `a·b / c`, rounding toward zero (R76, R77). -/
def truncMulDiv (a : Int) (b c : Nat) : Int := Int.tdiv (a * (b : Int)) (c : Int)

/-- The length of a displacement: the integer square root of dx² + dy² (R41, R76). -/
def lengthOf (dx dy : Int) : Nat := isqrt (dx * dx + dy * dy).toNat

/-- A coordinate within −8,388,608 to 8,388,607 (chapter 0). -/
def inRange (c : Int) : Bool := decide (Config.coordMin ≤ c) && decide (c ≤ Config.coordMax)

/-- The coordinate limited to the coordinate range (R110, R180). -/
def clampCoord (c : Int) : Int := max Config.coordMin (min Config.coordMax c)

end Sys2Proof.Machine

namespace Sys2Proof

/-- A point within the coordinate range on both axes. -/
def Point.inRange (p : Point) : Bool := Machine.inRange p.x && Machine.inRange p.y

/-- A point limited to the coordinate range on both axes (R110, R180). -/
def Point.limited (p : Point) : Point := ⟨Machine.clampCoord p.x, Machine.clampCoord p.y⟩

def Point.add (p q : Point) : Point := ⟨p.x + q.x, p.y + q.y⟩

def Point.sub (p q : Point) : Point := ⟨p.x - q.x, p.y - q.y⟩

end Sys2Proof
end

