-- ==== Sys2Proof/Machine/Flags.lean ====
section
/-! DEFINITION. The bits of the part's flag bytes and sets: action sets (R157, chapter 11.3), the locked actions (R159), the
pause-reason byte and the result codes. -/

namespace Sys2Proof.Machine

/-! ### Action sets -/

/-- The set holds the action of bit `n` (chapter 11.3, Action set). -/
def hasAction (a : ActionSet) (n : Nat) : Bool := a.getLsbD n

def hasLog (a : ActionSet) : Bool := hasAction a 0
def hasNotify (a : ActionSet) : Bool := hasAction a 1
def hasPause (a : ActionSet) : Bool := hasAction a 2
def hasHalt (a : ActionSet) : Bool := hasAction a 3
def hasBreak (a : ActionSet) : Bool := hasAction a 4
def hasPulse (a : ActionSet) (n : Fin 4) : Bool := hasAction a (8 + n.val)
def hasSet (a : ActionSet) (n : Fin 4) : Bool := hasAction a (12 + n.val)
def hasClr (a : ActionSet) (n : Fin 4) : Bool := hasAction a (16 + n.val)

/-- The seventeen action bits; every other bit is unused (chapter 11.3). -/
def actionMask : ActionSet := 0x000FFF1F#32

/-- An unused bit is set (R180). -/
def hasUnusedBit (a : ActionSet) : Bool := a &&& ~~~actionMask != 0

/-- SETn together with CLRn for some n (R157, R161). -/
def setsAndClears (a : ActionSet) : Bool := (a >>> 12) &&& (a >>> 16) &&& 0xF#32 != 0

/-- The locked actions of code `n` (R159). -/
def lockedSet (n : Nat) : ActionSet :=
  if n = 1 then 0x11#32
  else if n = 6 ∨ n = 22 then 0x03#32
  else if n = 7 ∨ n = 10 ∨ n = 12 ∨ n = 23 then 0x07#32
  else if n = 9 then 0x0B#32
  else if n = 13 ∨ n = 14 then 0x05#32
  else 0

/-! ### The event codes (chapter 9.1) -/

namespace Event
def wireLost : Code := 1
def passSense : Code := 2
def tensionOk : Code := 3
def cutterHome : Code := 4
def clampOk : Code := 5
def clampLost : Code := 6
def interlockOpen : Code := 7
def interlockClosed : Code := 8
def driveFault : Code := 9
def genFault : Code := 10
def starved : Code := 11
def stuckShort : Code := 12
def linkSilent : Code := 13
def dielectricLow : Code := 14
def spoolLow : Code := 15
def threadFail : Code := 16
def threadExhausted : Code := 17
def retentionDegraded : Code := 18
def passDone : Code := 19
def cavityDone : Code := 20
def breakLimit : Code := 21
def rerouteNeeded : Code := 22
def cutterStuck : Code := 23
def separationDone : Code := 24
def jobComplete : Code := 25
end Event

/-- The code of an edge of EXT_INn: 32 + n rising, 40 + n falling (R156). -/
def extCode (n : Fin 8) (rising : Bool) : Code :=
  if rising then ⟨32 + n.val, by omega⟩ else ⟨40 + n.val, by omega⟩

/-! ### The pause-reason set -/

/-- No pause reason stands (R21). -/
def Reasons.none : Reasons := ⟨false, false, false, false⟩

def Reasons.isEmpty (r : Reasons) : Bool := !(r.host || r.event || r.interlock || r.linkSilent)

/-- The pause-reason byte (chapter 11.3). -/
def Reasons.byte (r : Reasons) : Nat :=
  flagBit r.host 0 + flagBit r.event 1 + flagBit r.interlock 2 + flagBit r.linkSilent 3

/-! ### Result codes (R6, chapter 11.2) -/

inductive Result where
  | ok | okClamped | badLength | badField | unknownKind | wrongState | authority | notConfigured | noCavity | idInUse
  | tableFull | poolFull | outOfOrder | passOrder | passClosed | holdMisplaced | noHold | leadInTooLong | bridgeTooLong
  | geometry | tooLate | rerouteMismatch | activeMap | interlock | clampHeld
deriving DecidableEq, Repr

/-- The result byte (chapter 11.2). -/
def Result.byte : Result → Byte
  | .ok => 0x00#8 | .okClamped => 0x01#8 | .badLength => 0x10#8 | .badField => 0x11#8 | .unknownKind => 0x12#8
  | .wrongState => 0x20#8 | .authority => 0x21#8 | .notConfigured => 0x22#8 | .noCavity => 0x30#8 | .idInUse => 0x31#8
  | .tableFull => 0x32#8 | .poolFull => 0x40#8 | .outOfOrder => 0x41#8 | .passOrder => 0x42#8 | .passClosed => 0x43#8
  | .holdMisplaced => 0x44#8 | .noHold => 0x45#8 | .leadInTooLong => 0x46#8 | .bridgeTooLong => 0x47#8
  | .geometry => 0x48#8 | .tooLate => 0x49#8 | .rerouteMismatch => 0x4A#8 | .activeMap => 0x50#8 | .interlock => 0x51#8
  | .clampHeld => 0x52#8

end Sys2Proof.Machine
end

