-- ==== Sys2Proof/Machine/Update.lean ====
section
/-! DEFINITION. One named update for each field of State, so that every later definition and proof speaks of updates by name. -/

namespace Sys2Proof.Machine

/-- `s` with its `link` changed by `f`. -/
def State.updLink (s : State) (f : Link → Link) : State := { s with link := f s.link }

/-- `s` with its `limits` changed by `f`. -/
def State.updLimits (s : State) (f : Option Limits → Option Limits) : State := { s with limits := f s.limits }

/-- `s` with its `job` changed by `f`. -/
def State.updJob (s : State) (f : Job → Job) : State := { s with job := f s.job }

/-- `s` with its `cavities` changed by `f`. -/
def State.updCavities (s : State) (f : Vector (Option Cavity) 64 → Vector (Option Cavity) 64) : State := { s with cavities := f s.cavities }

/-- `s` with its `runOrder` changed by `f`. -/
def State.updRunOrder (s : State) (f : List CavityId → List CavityId) : State := { s with runOrder := f s.runOrder }

/-- `s` with its `sepQueue` changed by `f`. -/
def State.updSepQueue (s : State) (f : List CavityId → List CavityId) : State := { s with sepQueue := f s.sepQueue }

/-- `s` with its `store` changed by `f`. -/
def State.updStore (s : State) (f : Store → Store) : State := { s with store := f s.store }

/-- `s` with its `engine` changed by `f`. -/
def State.updEngine (s : State) (f : Engine → Engine) : State := { s with engine := f s.engine }

/-- `s` with its `feed` changed by `f`. -/
def State.updFeed (s : State) (f : Vector FeedClass 8 → Vector FeedClass 8) : State := { s with feed := f s.feed }

/-- `s` with its `feedOverride` changed by `f`. -/
def State.updFeedOverride (s : State) (f : Nat → Nat) : State := { s with feedOverride := f s.feedOverride }

/-- `s` with its `genWatch` changed by `f`. -/
def State.updGenWatch (s : State) (f : Watch → Watch) : State := { s with genWatch := f s.genWatch }

/-- `s` with its `driveWatch` changed by `f`. -/
def State.updDriveWatch (s : State) (f : Watch → Watch) : State := { s with driveWatch := f s.driveWatch }

/-- `s` with its `profiles` changed by `f`. -/
def State.updProfiles (s : State) (f : Vector Profile 4 → Vector Profile 4) : State := { s with profiles := f s.profiles }

/-- `s` with its `threading` changed by `f`. -/
def State.updThreading (s : State) (f : Threading → Threading) : State := { s with threading := f s.threading }

/-- `s` with its `recovery` changed by `f`. -/
def State.updRecovery (s : State) (f : Recovery → Recovery) : State := { s with recovery := f s.recovery }

/-- `s` with its `retention` changed by `f`. -/
def State.updRetention (s : State) (f : Retention → Retention) : State := { s with retention := f s.retention }

/-- `s` with its `maps` changed by `f`. -/
def State.updMaps (s : State) (f : EventMap → EventMap) : State := { s with maps := f s.maps }

/-- `s` with its `channels` changed by `f`. -/
def State.updChannels (s : State) (f : Vector Channel 4 → Vector Channel 4) : State := { s with channels := f s.channels }

/-- `s` with its `levels` changed by `f`. -/
def State.updLevels (s : State) (f : Vector Bool 4 → Vector Bool 4) : State := { s with levels := f s.levels }

/-- `s` with its `interlock` changed by `f`. -/
def State.updInterlock (s : State) (f : Interlock → Interlock) : State := { s with interlock := f s.interlock }

/-- `s` with its `log` changed by `f`. -/
def State.updLog (s : State) (f : List LogRecord → List LogRecord) : State := { s with log := f s.log }

/-- `s` with its `clock` changed by `f`. -/
def State.updClock (s : State) (f : BitVec 32 → BitVec 32) : State := { s with clock := f s.clock }

/-- `s` with its `raised` changed by `f`. -/
def State.updRaised (s : State) (f : List Raised → List Raised) : State := { s with raised := f s.raised }

/-- `s` with its `pins` changed by `f`. -/
def State.updPins (s : State) (f : Pins → Pins) : State := { s with pins := f s.pins }

/-- `s` with its `power` changed by `f`. -/
def State.updPower (s : State) (f : Power → Power) : State := { s with power := f s.power }

end Sys2Proof.Machine
end

