-- ==== Sys2Proof/Machine/Ops.lean ====
section
/-! DEFINITION. The shared operations: reading and changing cavities and chains, raising an event code with its log record and
notice (R158, R174), the notice queue (R9), the log (R175), the transmitter (R7), the timers' starts and the output channels. -/

namespace Sys2Proof.Machine

/-! ### Cavities and chains -/

/-- A pass record when its cavity is planned (R25). -/
def PassRec.new (serial : Nat) : PassRec := { state := .notStarted, savedP := 0, savedH := 0, chain := Chain.new serial }

/-- The states in which a cavity is the active cavity (R26). -/
def CavState.isActive : CavState → Bool
  | .threading | .cutting | .breakRecovery | .separating => true
  | _ => false

/-- The states no request or event moves a cavity out of (R26). -/
def CavState.isFinal : CavState → Bool
  | .done | .faulted | .skipped => true
  | _ => false

/-- The part is in operation: power valid and RESET_N high (R16). -/
def State.operating (s : State) : Bool := s.power.valid && s.power.resetN

/-- The cavity record with an id, if there is one. -/
def State.cavity (s : State) (i : CavityId) : Option Cavity := s.cavities[i]

/-- The record with an id changed; nothing where there is none. -/
def State.updCavity (s : State) (i : CavityId) (f : Cavity → Cavity) : State :=
  s.updCavities fun t => t.set i.val (t[i].map f)

/-- The cavity in an active state (R26). -/
def State.activeCavity (s : State) : Option Cavity := s.job.active.bind s.cavity

/-- The active cavity's record changed. -/
def State.updActive (s : State) (f : Cavity → Cavity) : State :=
  match s.job.active with
  | some i => s.updCavity i f
  | none => s

/-- A cavity enters a state; it becomes, stays or ceases to be the active cavity with it (R26). -/
def State.setCavState (s : State) (i : CavityId) (st : CavState) : State :=
  (s.updCavity i fun c => { c with state := st }).updJob fun j =>
    { j with active := if st.isActive then some i else if j.active = some i then none else j.active }

def Cavity.updPass (c : Cavity) (k : PassIx) (f : PassRec → PassRec) : Cavity :=
  { c with passes := c.passes.set k.val (f c.passes[k]) }

/-- The chain a reference names: a pass chain of the active cavity, the reroute chain or the separation chain (R79). -/
def State.chainOf (s : State) (r : ChainRef) : Option Chain :=
  match r with
  | .pass k => s.activeCavity.map fun c => (c.passes[k]).chain
  | .reroute => s.store.reroute.map fun o => o.chain
  | .separation => s.store.separation.map fun o => o.chain

def State.updChain (s : State) (r : ChainRef) (f : Chain → Chain) : State :=
  match r with
  | .pass k => s.updActive fun c => c.updPass k fun p => { p with chain := f p.chain }
  | .reroute => s.updStore fun t => { t with reroute := t.reroute.map fun o => { o with chain := f o.chain } }
  | .separation => s.updStore fun t => { t with separation := t.separation.map fun o => { o with chain := f o.chain } }

/-- The engine's active chain (R79). -/
def State.activeChain (s : State) : Option Chain := s.engine.chain.bind s.chainOf

/-- Slots returned to the free list (R38). -/
def State.freeSlots (s : State) (n : Nat) : State := s.updStore fun t => { t with free := t.free + n }

/-- The default job parameters (R19). -/
def JobParams.default : JobParams :=
  { faultPolicy := .skip, separationPolicy := .atEnd, resumePolicy := .atBreak, retrace := 20000, drySpeed := 500,
    rapidSpeed := 1500, clampWait := 2000, breakLimit := 5, heartbeat := 0, pacing := 50 }

/-- The job parameters in force; the defaults where there is no job. -/
def State.params (s : State) : JobParams := s.job.params.getD JobParams.default

/-- The threading profile a cavity names (R103). -/
def State.profileOf (s : State) (i : CavityId) : Profile :=
  match s.cavity i with
  | some c => s.profiles[c.profile]
  | none => Profile.default

/-- The start hole of a cavity. -/
def State.holeOf (s : State) (i : CavityId) : Point :=
  match s.cavity i with
  | some c => c.hole
  | none => ⟨0, 0⟩

/-! ### The log (R175) -/

/-- A record appended at the tail; from a full log the oldest is discarded and its successor flagged (R175). -/
def pushLog (log : List LogRecord) (r : LogRecord) : List LogRecord :=
  if log.length < Config.logSlots then log ++ [r]
  else match log with
    | _ :: o :: rest => { o with discontinuity := true } :: (rest ++ [r])
    | _ => [r]

/-! ### The notice queue (R9) -/

def Notice.isProgress : Notice → Bool
  | .progress _ => true
  | .event _ _ => false

/-- A notice offered to the queue: an EVENT notice joins the tail of a queue that is not full; a PROGRESS notice replaces the
queued one in place, or joins like an EVENT notice (R9). -/
def offerNotice (q : List Notice) (n : Notice) : List Notice :=
  if n.isProgress && q.any Notice.isProgress then q.map fun m => if m.isProgress then n else m
  else if q.length < Config.noticeSlots then q ++ [n] else q

/-- The notice carries the retired count of the chain `o`, a reroute or separation chain as `r` says (R61). -/
def Notice.reports (r : ChainRef) (o : OwnedChain) : Notice → Bool
  | .progress c => decide (c.chain = r) && decide (c.serial = o.chain.serial)
  | .event _ _ => false

/-- The queue after the chain `o`, if there is one, has ceased: the advance that its queued PROGRESS notice carries is still
unreported, so it is dropped and never reported (R59, R61; notes/assumptions/25.md). -/
def dropReports (r : ChainRef) (o : Option OwnedChain) (q : List Notice) : List Notice :=
  match o with
  | some c => q.filter fun n => !n.reports r c
  | none => q

def State.offer (s : State) (n : Notice) : State := s.updLink fun l => { l with notices := offerNotice l.notices n }

/-! ### Raising an event code (R158, R174) -/

/-- The reported chain (R174, R177): SEPARATION while the active cavity is SEPARATING, else the engine's active chain. -/
def State.reportedChain (s : State) : Option ChainRef :=
  match s.activeCavity with
  | some c => if c.state = .separating then some .separation else s.engine.chain
  | none => s.engine.chain

/-- P, H or the floor, reported as 0 while no chain is active (R78, R174). -/
def State.reportedP (s : State) : Nat := if s.engine.chain.isSome then s.engine.p else 0

/-- The content of an event raised now for a cavity (R8, R174). -/
def State.eventContent (s : State) (cavity : Option CavityId) (detail : Nat) : EventContent :=
  { cavity := cavity, chain := s.reportedChain, offset := s.reportedP, detail := detail, clock := s.clock }

/-- The entry of a code in a map (R158). -/
def EventMap.entry (m : EventMap) (name : MapName) (code : Code) : ActionSet :=
  match name with
  | .a => m.mapA[code]
  | .b => m.mapB[code]

/-- The LOG action: a record is appended (R174, R175). -/
def State.logEvent (s : State) (code : Code) (content : EventContent) : State :=
  s.updLog fun l => pushLog l { code := code, content := content, discontinuity := false }

/-- A code is raised and looked up in the active map: LOG and NOTIFY are handed now, with the content of this moment; the
other actions of the entry wait for the end of the handling that raised it (R158; notes/assumptions/9.md). `cavity` is the cavity
concerned (R174). -/
def State.raiseFor (s : State) (cavity : Option CavityId) (code : Code) (detail : Nat) : State :=
  let entry := s.maps.entry s.maps.active code
  let content := s.eventContent cavity detail
  let s1 := if hasLog entry then s.logEvent code content else s
  let s2 := if hasNotify entry then s1.offer (.event code content) else s1
  s2.updRaised fun r => r ++ [{ code := code, actions := entry }]

/-- A code raised for the active cavity (R174). -/
def State.raise (s : State) (code : Code) (detail : Nat) : State := s.raiseFor s.job.active code detail

/-! ### The transmitter (R7) -/

/-- A chain's number in byte form (chapter 11.3); 0xFF for none (R181). -/
def chainByte : Option ChainRef → Nat
  | some (.pass k) => k.val
  | some .reroute => 4
  | some .separation => 5
  | none => 0xFF

/-- A cavity id in byte form; 0xFF for none (R181). -/
def cavityByte : Option CavityId → Nat
  | some i => i.val
  | none => 0xFF

/-- The frame of a notice, with TAG 0 (R8, chapter 11.5). -/
def Notice.frame : Notice → Frame
  | .event code c =>
    { kind := 0xF0#8, tag := 0
      payload := enc8 code.val ++ enc8 (cavityByte c.cavity) ++ enc8 (chainByte c.chain) ++ enc32 c.offset ++
        enc16 c.detail ++ enc32 c.clock.toNat }
  | .progress c =>
    { kind := 0xF1#8, tag := 0
      payload := enc8 c.cavity.val ++ enc8 (chainByte (some c.chain)) ++ enc32 c.h ++ enc32 c.retired ++ enc16 c.free }

/-- The chain numbered `serial` takes a reported count. -/
def Chain.report (serial retired : Nat) (c : Chain) : Chain :=
  if c.serial = serial then { c with reported := retired } else c

/-- The transmission of a PROGRESS notice begins: its chain's reported count is what the notice carries (R61). -/
def State.markReported (s : State) (c : ProgressContent) : State :=
  match c.chain with
  | .pass k => s.updCavity c.cavity fun v => v.updPass k fun p => { p with chain := p.chain.report c.serial c.retired }
  | r => s.updChain r (Chain.report c.serial c.retired)

/-- An idle transmitter takes the oldest reply, else the notice at the head of the queue (R7). -/
def State.startTransmit (s : State) : State :=
  match s.link.sending with
  | some _ => s
  | none =>
    match s.link.replies with
    | f :: rest => s.updLink fun l => { l with replies := rest, sending := some f }
    | [] =>
      match s.link.notices with
      | .progress c :: rest =>
        (s.updLink fun l => { l with notices := rest, sending := some (Notice.progress c).frame }).markReported c
      | n :: rest => s.updLink fun l => { l with notices := rest, sending := some n.frame }
      | [] => s

/-! ### Heartbeat (R10, R11) -/

/-- The heartbeat timer starts at the full interval when the interval is not 0 (R10). -/
def State.startHeartbeat (s : State) : State :=
  s.updLink fun l => { l with heartbeat := if s.params.heartbeat = 0 then none else some s.params.heartbeat }

def State.stopHeartbeat (s : State) : State := s.updLink fun l => { l with heartbeat := none }

/-- A valid frame restarts a running heartbeat timer (R11). -/
def State.restartHeartbeat (s : State) : State := if s.link.heartbeat.isSome then s.startHeartbeat else s

/-! ### Output channels (R166, R167) -/

/-- The level of a channel's pin at its active or inactive level (R165). -/
def ChannelConfig.level (c : ChannelConfig) (active : Bool) : Bool :=
  match c.polarity with
  | .high => active
  | .low => !active

/-- A channel enters ACTIVE: output at the active level, timer at the width (R166). -/
def Channel.activate (c : Channel) : Channel :=
  { c with state := .active, timer := some c.inForce.width, output := c.inForce.level true }

/-- The PULSEn action: it starts an IDLE channel and is ignored by any other (R166). -/
def Channel.trigger (c : Channel) : Channel :=
  match c.state with
  | .idle => if c.inForce.delay = 0 then c.activate else { c with state := .delaying, timer := some c.inForce.delay }
  | _ => c

def State.pulse (s : State) (n : Fin 4) : State := s.updChannels fun v => v.set n.val (v[n]).trigger

/-- The SETn and CLRn actions (R167). -/
def State.setLevel (s : State) (n : Fin 4) (active : Bool) : State := s.updLevels fun v => v.set n.val active

/-- The output actions of one channel number (R157). -/
def State.outputActions (s : State) (a : ActionSet) (n : Fin 4) : State :=
  let s1 := if hasPulse a n then s.pulse n else s
  let s2 := if hasSet a n then s1.setLevel n true else s1
  if hasClr a n then s2.setLevel n false else s2

/-- The output actions of an entry, channel by channel from 0 to 3 (R158). -/
def State.allOutputActions (s : State) (a : ActionSet) : State :=
  (((s.outputActions a 0).outputActions a 1).outputActions a 2).outputActions a 3

end Sys2Proof.Machine
end

