-- ==== Sys2Proof/Machine/Store.lean ====
section
/-! DEFINITION. The segment store's operations on chains (chapter 3): the segment containing P, engagement, cutting, retirement,
the floor, parking, discarding, freeing, the ceasing of owned chains (R59, R61), and the interpolation of a position (R77). -/

namespace Sys2Proof.Machine

def Segment.endOffset (g : Segment) : Nat := g.s0 + g.len

/-- The segment covers the offset: s0 ≤ P < s0 + L (R48). -/
def Segment.covers (g : Segment) (p : Nat) : Bool := decide (g.s0 ≤ p) && decide (p < g.endOffset)

/-- The segment containing P (R48): the one that covers it, or the last one when P is the end offset of the last appended
segment. -/
def Chain.containing (c : Chain) (p : Nat) : Option Segment :=
  match c.segs.find? fun g => g.covers p with
  | some g => some g
  | none => if p = c.endOffset then c.segs.getLast? else none

/-- The position at path offset P on a segment (R77). -/
def Segment.position (g : Segment) (p : Nat) : Point :=
  { x := g.start.x + truncMulDiv g.dx (p - g.s0) g.len, y := g.start.y + truncMulDiv g.dy (p - g.s0) g.len }

/-- The position at path offset P of a chain (R77); the hold point where the segments from HOLD on have left the chain
(R125), and the chain's origin where it has no segment. -/
def Chain.position (c : Chain) (origin : Point) (p : Nat) : Point :=
  match c.containing p with
  | some g => g.position p
  | none => if c.holdOffset = some p then c.holdPoint else origin

/-! ### Engagement, cutting, retirement, floor -/

/-- The first `n` segments of a list, where QUEUED, become ENGAGED. -/
def engageFirst : Nat → List Segment → List Segment
  | 0, l => l
  | _, [] => []
  | n + 1, g :: l => (if g.state = .queued then { g with state := .engaged } else g) :: engageFirst n l

/-- The engagement window: the segment containing P and the two that follow it (R48). -/
def Chain.engage (c : Chain) (p : Nat) : Chain :=
  { c with segs := engageFirst ((c.segs.filter fun g => decide (g.endOffset ≤ p)).length + 3) c.segs }

/-- ENGAGED segments that end at or below H become CUT (R51). -/
def Chain.markCut (c : Chain) (h : Nat) : Chain :=
  { c with segs := c.segs.map fun g => if g.state = .engaged ∧ g.endOffset ≤ h then { g with state := .cut } else g }

/-- The oldest `n` CUT segments taken out of a list: those taken, and those that stay (R52, second step). -/
def takeOldestCut : Nat → List Segment → List Segment × List Segment
  | 0, l => ([], l)
  | _, [] => ([], [])
  | n + 1, g :: l =>
    if g.state = .cut then
      let r := takeOldestCut n l
      (g :: r.1, r.2)
    else
      let r := takeOldestCut (n + 1) l
      (r.1, g :: r.2)

/-- The segments that retire when H increases, and those that stay (R52): every CUT segment that ends one retrace depth or
more behind H, then the oldest CUT ones while more than 16 are held. -/
def Chain.retiring (c : Chain) (h : Nat) : List Segment × List Segment :=
  let byDepth := c.segs.partition fun g => decide (g.state = .cut) && decide (g.endOffset + c.depth ≤ h)
  let cut := (byDepth.2.filter fun g => decide (g.state = .cut)).length
  let byCount := takeOldestCut (cut - Config.maxHeldCut) byDepth.2
  (byDepth.1 ++ byCount.1, byCount.2)

/-- A segment of a pass-0 chain lies before the ENTRY segment (R53). -/
def Chain.beforeEntry (c : Chain) (g : Segment) : Bool :=
  match c.entrySeq with
  | some e => decide (g.seq < e)
  | none => true

/-- Segments that have left the active chain `r` by retirement (R53): those of pass 0 before ENTRY enter the lead-in list and
keep their slots, every other slot is freed; the retired count rises by their number. -/
def State.dispose (s : State) (r : ChainRef) (c : Chain) (gone : List Segment) : State :=
  let lead := if r = .pass 0 then gone.filter c.beforeEntry else []
  let s1 := (s.updChain r fun d => { d with retired := d.retired + gone.length }).freeSlots (gone.length - lead.length)
  if lead.isEmpty then s1
  else s1.updActive fun v => { v with leadIn := v.leadIn ++ lead.map fun g => { g with state := .leadIn } }

/-- R52 and R53 applied to the active chain at H. -/
def State.retire (s : State) (r : ChainRef) (h : Nat) : State :=
  match s.chainOf r with
  | some c => (s.updChain r fun d => { d with segs := (c.retiring h).2 }).dispose r c (c.retiring h).1
  | none => s

/-- Every segment still held in a chain that completes is retired (R54). -/
def State.retireAll (s : State) (r : ChainRef) : State :=
  match s.chainOf r with
  | some c => (s.updChain r fun d => { d with segs := [] }).dispose r c c.segs
  | none => s

/-- The floor of a chain (R55). -/
def Chain.floorAt (c : Chain) (p h : Nat) : Nat :=
  max (h - c.depth)
    (match c.segs.find? fun g => decide (g.state ≠ .queued) || g.covers p with
     | some g => g.s0
     | none => 0)

def State.updFloor (s : State) : State :=
  match s.activeChain with
  | some c => s.updEngine fun e => { e with floor := c.floorAt e.p e.h }
  | none => s

/-- The engagement window applied to the active chain at P (R48). -/
def State.engage (s : State) : State :=
  match s.engine.chain with
  | some r => s.updChain r fun c => c.engage s.engine.p
  | none => s

/-- What the store does when H increases: cutting, retirement, the floor (R51, R52, R55). -/
def State.advanceH (s : State) : State :=
  match s.engine.chain with
  | some r => ((s.updChain r fun c => c.markCut s.engine.h).retire r s.engine.h).updFloor
  | none => s

/-! ### Parking, discarding, freeing -/

/-- The segments of a chain from the HOLD segment on. -/
def Chain.fromHold (c : Chain) : List Segment :=
  match c.holdOffset with
  | some o => c.segs.filter fun g => decide (o ≤ g.s0)
  | none => []

/-- The segments of a chain before the HOLD segment. -/
def Chain.beforeHold (c : Chain) : List Segment :=
  match c.holdOffset with
  | some o => c.segs.filter fun g => decide (g.s0 < o)
  | none => c.segs

def totalLength (l : List Segment) : Nat := (l.map fun g => g.len).sum

/-- The bridge length is recorded when the CLOSE segment has been pushed (R57). -/
def Cavity.recordBridge (c : Cavity) : Cavity := { c with bridgeLength := some (totalLength c.bridge) }

/-- The bridge is parked: pass 0 from HOLD on moves to the bridge stack, and the pass goes AT_HOLD (R57). -/
def Cavity.park (c : Cavity) : Cavity :=
  let ch := (c.passes[(0 : PassIx)]).chain
  let c1 : Cavity :=
    { c with
      bridge := c.bridge ++ ch.fromHold.map fun g => { g with state := .parked }
      passes := c.passes.set 0 { c.passes[(0 : PassIx)] with state := .atHold, chain := { ch with segs := ch.beforeHold } } }
  if ch.closed then c1.recordBridge else c1

/-- A skim pass at its hold: its segments from HOLD on are discarded, and the pass goes AT_HOLD (R58). -/
def State.discardFromHold (s : State) (k : PassIx) : State :=
  match s.activeCavity with
  | some c =>
    let ch := (c.passes[k]).chain
    (s.updActive fun v => v.updPass k fun p =>
      { p with state := .atHold, chain := { ch with segs := ch.beforeHold, retired := ch.retired + ch.fromHold.length } }
      ).freeSlots ch.fromHold.length
  | none => s

/-- The slots a cavity's own lists and pass chains hold (R27). -/
def Cavity.slots (c : Cavity) : Nat :=
  (c.passes.toList.map fun p => p.chain.segs.length).sum + c.leadIn.length + c.bridge.length

/-- The pass record with no segment in its chain; its counts stay (R61). -/
def PassRec.emptied (p : PassRec) : PassRec := { p with chain := { p.chain with segs := [] } }

/-- The cavity without its slots (R27). -/
def Cavity.emptied (c : Cavity) : Cavity :=
  { c with
    passes := mapTable PassRec.emptied c.passes
    leadIn := []
    bridge := [] }

/-- The slots an owned chain holds for a cavity. -/
def ownedSlots (o : Option OwnedChain) (i : CavityId) : Nat :=
  match o with
  | some c => if c.owner = i then c.chain.segs.length else 0
  | none => 0

/-- The slots an owned chain holds, whoever owns it. -/
def heldBy (o : Option OwnedChain) : Nat :=
  match o with
  | some c => c.chain.segs.length
  | none => 0

/-- The chain of a cavity that ceases. -/
def withoutOwner (o : Option OwnedChain) (i : CavityId) : Option OwnedChain :=
  match o with
  | some c => if c.owner = i then none else some c
  | none => none

/-- The owned chain, if it is the cavity's. -/
def ownedBy (o : Option OwnedChain) (i : CavityId) : Option OwnedChain :=
  match o with
  | some c => if c.owner = i then some c else none
  | none => none

/-- A notice queue when a cavity's reroute and separation chains cease (R59, R61). -/
def State.withoutReportsOf (s : State) (i : CavityId) (q : List Notice) : List Notice :=
  dropReports .separation (ownedBy s.store.separation i) (dropReports .reroute (ownedBy s.store.reroute i) q)

/-- Every slot a cavity holds is freed: pass chains, lead-in list, bridge stack, reroute chain, separation chain (R27). The last
two cease, and what their PROGRESS notice has not yet reported is dropped (R59, R61). -/
def State.freeCavity (s : State) (i : CavityId) : State :=
  match s.cavity i with
  | some c =>
    ((s.updCavity i Cavity.emptied).updStore fun t =>
      { t with
        free := t.free + c.slots + ownedSlots t.reroute i + ownedSlots t.separation i
        reroute := withoutOwner t.reroute i
        separation := withoutOwner t.separation i }).updLink fun l => { l with notices := s.withoutReportsOf i l.notices }
  | none => s

/-- The reroute chain record ceases, and the unreported advance of its retired count is dropped (R59). -/
def State.rerouteCeases (s : State) : State :=
  (s.updStore fun t => { t with reroute := none }).updLink fun l =>
    { l with notices := dropReports .reroute s.store.reroute l.notices }

/-- The separation chain ceases, and the unreported advance of its retired count is dropped (R61). -/
def State.separationCeases (s : State) : State :=
  (s.updStore fun t => { t with separation := none }).updLink fun l =>
    { l with notices := dropReports .separation s.store.separation l.notices }

/-- A RETAINED cavity's pass chains are freed (R28); they hold nothing after their completion (R54). -/
def State.freePasses (s : State) (i : CavityId) : State :=
  match s.cavity i with
  | some c =>
    (s.updCavity i fun v => { v with passes := mapTable PassRec.emptied v.passes }).freeSlots
      (c.passes.toList.map fun p => p.chain.segs.length).sum
  | none => s

/-- The reroute chain is discarded: its segments are freed and do not count as retired, and the chain ceases (R59). -/
def State.discardReroute (s : State) : State := (s.freeSlots (heldBy s.store.reroute)).rerouteCeases

/-! ### The origin of a chain (R42) -/

/-- The method that fixes a skim chain's origin: the effective method, or the planned one while that is absent (R42). -/
def Cavity.originMethod (c : Cavity) : Method := c.effective.getD c.planned

/-- The end position of a pass: its hold point for BRIDGE, its CLOSE end point otherwise (R42). -/
def Cavity.endPosition (c : Cavity) (k : PassIx) : Point :=
  match c.originMethod with
  | .bridge => (c.passes[k]).chain.holdPoint
  | _ => (c.passes[k]).chain.endPoint

/-- The origin of a chain of a cavity (R42). -/
def Cavity.origin (c : Cavity) (r : ChainRef) : Point :=
  match r with
  | .pass k => if h : 0 < k.val then c.endPosition ⟨k.val - 1, by omega⟩ else c.hole
  | _ => c.hole

/-- The position at P in a chain of the active cavity (R77). -/
def State.positionAt (s : State) (r : ChainRef) (p : Nat) : Point :=
  match s.activeCavity, s.chainOf r with
  | some c, some ch => ch.position (c.origin r) p
  | _, _ => s.engine.commanded

end Sys2Proof.Machine
end

