-- ==== Sys2Proof/Machine/Engine.lean ====
section
/-! DEFINITION. The cut engine's shared operations (chapter 5): the servo state, moves, starvation, suspension, the stop and the
generator enable. -/

namespace Sys2Proof.Machine

/-- Previous step and run 0, no stability reference (R66). -/
def Engine.servoReset (e : Engine) : Engine := { e with prevStep := 0, run := 0, reference := none }

def State.servoReset (s : State) : State := s.updEngine Engine.servoReset

def State.setEngineState (s : State) (st : EngineState) : State := s.updEngine fun e => { e with state := st }

/-- No chain is active, and P, H and the floor are reported as 0 (R78). -/
def Engine.dropChain (e : Engine) : Engine := { e with chain := none, p := 0, h := 0, floor := 0 }

/-- The engine stops: IDLE from whichever state, no move, no resume state, no active chain; the commanded position stays (R102). -/
def State.engineStop (s : State) : State :=
  s.updEngine fun e => { e.dropChain with state := .idle, move := none, resume := none }

/-- A rapid move of non-zero displacement starts: the engine enters RAPID (R76). A move that replaces another returns where
that one would have. -/
def State.beginMove (s : State) (target : Point) (purpose : MovePurpose) : State :=
  s.updEngine fun e =>
    let back := match e.move with
      | some (.rapid _ _ _ _ b) => b
      | _ => e.state
    { e with state := .rapid, move := some (.rapid e.commanded target 0 purpose back) }

/-- A path traverse starts: the engine enters RAPID (R97). -/
def State.beginTraverse (s : State) (target : Nat) : State :=
  s.updEngine fun e => { e with state := .rapid, move := some (.traverse target) }

/-- The engine enters BROKEN: a move is cancelled, a resume state dropped (R97). -/
def State.engineBroken (s : State) : State :=
  s.updEngine fun e => { e with state := .broken, move := none, resume := none }

/-- Entry to STARVED: the code is raised with the active chain's next expected sequence (R88). -/
def State.enterStarved (s : State) : State :=
  let s1 := s.setEngineState .starved
  s1.raise Event.starved ((s1.activeChain.map fun c => c.nextSeq).getD 0)

/-- The engine waits for the CLOSE of a pass AT_HOLD: STARVED, raised only when it enters from another state (R93). -/
def State.waitAtHold (s : State) : State := if s.engine.state = .starved then s else s.enterStarved

/-- The job has entered PAUSED: an engine in CUTTING, STARVED, RAPID or CLAMP_WAIT suspends (R99). -/
def State.engineSuspend (s : State) : State :=
  match s.engine.state with
  | .cutting | .starved | .rapid | .clampWait =>
    s.updEngine fun e => { e with state := .paused, resume := some e.state }
  | _ => s

/-- The hold applies to the active chain (R90). -/
def State.holdApplies (s : State) : Bool :=
  match s.engine.chain, s.activeCavity with
  | some (.pass k), some c =>
    if k = 0 then decide (c.planned ≠ .none) && c.effective.isNone
    else decide (c.effective = some .bridge) && decide ((c.passes[k]).state ≠ .atHold)
  | _, _ => false

/-- The hold is reached: it applies, and P equals the hold offset (R90). -/
def State.atHold (s : State) : Bool :=
  s.holdApplies && (match s.activeChain with
    | some c => decide (c.holdOffset = some s.engine.p)
    | none => false)

/-- The segment of the active chain that contains P. -/
def State.segmentAtP (s : State) : Option Segment := s.activeChain.bind fun c => c.containing s.engine.p

/-- The conditions of GEN_EN (R86); the feed class of the segment containing P where they all hold. -/
def State.genClass (s : State) : Option ClassIx :=
  if s.engine.state = .cutting ∧ s.threading.wireIn = true ∧ s.job.state = .running ∧ s.pins.interlock = true then
    match s.segmentAtP with
    | some g => if g.mode = .cut then some g.feedClass else none
    | none => none
  else none

/-- GEN_EN follows its conditions. The energy index is 0 while it is low, is read from the table when the class at P changes
and at each report, and is otherwise kept (R86). -/
def State.refreshGen (s : State) (atReport : Bool) : State :=
  match s.genClass with
  | none => s.updEngine fun e => { e with genEn := false, energy := 0, energyClass := none }
  | some k =>
    if s.engine.energyClass = some k ∧ atReport = false then s.updEngine fun e => { e with genEn := true }
    else s.updEngine fun e => { e with genEn := true, energy := (s.feed[k]).energy, energyClass := some k }

end Sys2Proof.Machine
end

