-- ==== Sys2Proof/Machine/Threading.lean ====
section
/-! DEFINITION. The threading unit's shared operations (chapter 6): the steps of an attempt, the SEVER, suspension, restart and
stops. Outcomes are handed to their requesters in Recovery.lean. -/

namespace Sys2Proof.Machine

def Threading.allOff (t : Threading) : Threading := { t with out := .off }

/-- The jet level of attempt `i` (R111). -/
def jetLevel (p : Profile) (ceil : Nat) (purpose : Purpose) (i : Nat) : Nat :=
  match purpose with
  | .kerf => min p.kerfJet ceil
  | _ => min (min (p.jetBase + (i - 1) * p.jetStep) 7) ceil

/-- JET_CEIL, or the highest level while the limits record is unwritten (R13). -/
def State.jetCeil (s : State) : Nat :=
  match s.limits with
  | some l => l.jetCeil
  | none => 7

/-- The position of attempt `i`: the target plus the search offset numbered (i − 1) mod m for a HOLE purpose, each coordinate
limited to its range (R110). -/
def attemptPosition (p : Profile) (w : Attempting) : Point :=
  match w.purpose with
  | .kerf => w.target.limited
  | _ => (w.target.add (p.offsets.getD ((w.attempt - 1) % p.offsets.length) ⟨0, 0⟩)).limited

/-- The attempt count of a purpose (R107, R113). -/
def attemptCount (p : Profile) (purpose : Purpose) : Nat :=
  match purpose with
  | .kerf => p.kerfAttempts
  | _ => p.attempts

/-! ### The steps of an attempt -/

/-- TRIM begins: CUTTER on, timer at the trim pulse (R109). -/
def State.beginTrim (s : State) (w : Attempting) : State :=
  s.updThreading fun t =>
    { t with
      state := .trim, homeWait := false, timer := some (s.profileOf w.cavity).trim
      out := { ThreadOut.off with cutter := true } }

/-- ANNEAL begins: ANNEAL on and timed, or TRIM at once when the anneal time is 0 (R108). -/
def State.beginAnneal (s : State) (w : Attempting) : State :=
  if (s.profileOf w.cavity).anneal = 0 then s.beginTrim w
  else s.updThreading fun t =>
    { t with
      state := .anneal, homeWait := false, timer := some (s.profileOf w.cavity).anneal
      out := { ThreadOut.off with anneal := true } }

/-- Attempt `i` begins: the cavity's attempts used is set to it (R107). -/
def State.beginAttempt (s : State) (w : Attempting) : State :=
  ((s.updThreading fun t => { t with work := some w }).updCavity w.cavity fun c => { c with attemptsUsed := w.attempt }
    ).beginAnneal w

/-- JET begins: jet at its level, FEED_FWD on, timer at the pass timeout (R111). -/
def State.beginJet (s : State) : State :=
  match s.threading.work with
  | some w =>
    s.updThreading fun t =>
      { t with
        state := .jet, homeWait := false, timer := some (s.profileOf w.cavity).passTimeout
        out := { ThreadOut.off with
          jet := true, feedFwd := true, jetLevel := jetLevel (s.profileOf w.cavity) s.jetCeil w.purpose w.attempt } }
  | none => s

/-- The POSITION step of a resumed attempt waits for a move that still runs to the same position (R119); a move still running
to another position is replaced (notes/assumptions/17.md). -/
def State.requestPosition (s : State) (target : Point) : State :=
  match s.engine.state, s.engine.move with
  | .rapid, some (.rapid _ t _ .position back) =>
    if t = target then s
    else if target = s.engine.commanded then
      (s.updEngine fun e => { e with state := back, move := none }).beginJet
    else s.beginMove target .position
  | _, _ => if target = s.engine.commanded then s.beginJet else s.beginMove target .position

/-- POSITION begins: the guides are brought over the attempt's position; a position already reached begins JET at once (R110). -/
def State.beginPosition (s : State) : State :=
  match s.threading.work with
  | some w =>
    (s.updThreading fun t => { t with state := .position, homeWait := false, timer := none, out := .off }
      ).requestPosition (attemptPosition (s.profileOf w.cavity) w)
  | none => s

/-- The move of a POSITION step has arrived: JET begins, if the unit still waits for it (R110, R119). -/
def State.positionArrived (s : State) : State :=
  if s.threading.state = .position ∧ s.threading.restart = none then s.beginJet else s

/-- TENSION begins: TENSION_ENGAGE on, jet and feed kept, timer at the tension timeout (R112). -/
def State.beginTension (s : State) : State :=
  match s.threading.work with
  | some w =>
    s.updThreading fun t =>
      { t with
        state := .tension, timer := some (s.profileOf w.cavity).tensionTimeout
        out := { t.out with tensionEngage := true } }
  | none => s

/-- WITHDRAW begins: FEED_REV on, timer at the withdraw time (R113). -/
def State.beginWithdraw (s : State) (w : Withdrawing) : State :=
  s.updThreading fun t =>
    { t with
      state := .withdraw, withdraw := some w, timer := some (s.profileOf w.cavity).withdraw
      out := { ThreadOut.off with feedRev := true } }

/-! ### The SEVER (R115) -/

/-- The cut phase: CUTTER on, timer at the trim pulse (R115, step 3). -/
def State.severCutPhase (s : State) (v : Severing) : State :=
  s.updThreading fun t =>
    { t with
      state := .sever, sever := some { v with phase := .pulse }, timer := some (s.profileOf v.cavity).trim
      out := { ThreadOut.off with cutter := true } }

/-- The withdraw phase of a full SEVER: FEED_REV on, timer at the withdraw time (R115, step 5). -/
def State.severWithdrawPhase (s : State) (v : Severing) : State :=
  s.updThreading fun t =>
    { t with
      state := .sever, sever := some { v with phase := .withdraw }, timer := some (s.profileOf v.cavity).withdraw
      out := { ThreadOut.off with feedRev := true } }

/-- A SEVER begins: WIRE_IN is cleared, the tension, jet, feed and anneal outputs go off, and the cut phase begins (R115). -/
def State.beginSever (s : State) (form : SeverForm) (purpose : SeverFor) (cavity : CavityId) : State :=
  (s.updThreading fun t => { t with wireIn := false, withdraw := none, restart := none }).severCutPhase
    { form := form, phase := .pulse, purpose := purpose, cavity := cavity }

/-- A SEVER for an abandoned or faulted cavity: it begins now, or when a PAUSED job returns to RUNNING (R120, R126). -/
def State.requestSever (s : State) (cavity : CavityId) : State :=
  if s.job.state = .paused then s.updThreading fun t => { t with deferred := some (.sever cavity) }
  else s.beginSever .full .machine cavity

/-! ### A threading is begun (R107) -/

def Purpose.isHole : Purpose → Bool
  | .kerf => false
  | _ => true

/-- A threading is begun at attempt 1, after a full SEVER when a HOLE purpose finds WIRE_IN set (R107). -/
def State.beginThreading (s : State) (purpose : Purpose) (target : Point) (cavity : CavityId) : State :=
  let w : Attempting := { purpose := purpose, target := target, attempt := 1, cavity := cavity }
  if purpose.isHole && s.threading.wireIn then
    (s.updThreading fun t => { t with work := some w }).beginSever .full .preThread cavity
  else s.beginAttempt w

/-! ### Suspension and restart (R118, R119) -/

/-- Where a unit in a state begins again after a pause; none where it holds nothing to restart (R118). -/
def Threading.restartPoint (t : Threading) : Option RestartPoint :=
  match t.state with
  | .anneal | .trim | .position | .jet | .tension => some .attempt
  | .withdraw => some .withdraw
  | .sever =>
    match t.sever with
    | some v => if v.phase = .withdraw then some .severWithdraw else some .cutPhase
    | none => none
  | .idle | .threaded | .failed => none

/-- The job has entered PAUSED: the unit suspends; one already suspended after CUTTER_STUCK keeps its restart point (R118). -/
def Threading.suspend (t : Threading) : Threading :=
  match t.restart, t.restartPoint with
  | none, some r => { t with out := .off, timer := none, homeWait := false, restart := some r }
  | _, _ => t

/-- A unit with its restart mark set begins again at its restart point (R119). -/
def State.threadingRestart (s : State) : State :=
  let s1 := s.updThreading fun t => { t with restart := none }
  match s.threading.restart with
  | none => s
  | some .attempt =>
    match s.threading.work with
    | some w => s1.beginAnneal w
    | none => s1
  | some .withdraw =>
    match s.threading.withdraw with
    | some w => s1.beginWithdraw w
    | none => s1
  | some .cutPhase =>
    match s.threading.sever with
    | some v => s1.severCutPhase v
    | none => s1
  | some .severWithdraw =>
    match s.threading.sever with
    | some v => s1.severWithdrawPhase v
    | none => s1

/-- A SEVER or WITHDRAW that waited for the job begins (R119). -/
def State.startDeferred (s : State) : State :=
  let s1 := s.updThreading fun t => { t with deferred := none, restart := none }
  match s.threading.deferred with
  | none => s
  | some (.sever c) => s1.beginSever .full .machine c
  | some (.withdraw c) => s1.beginWithdraw { next := .idle, cavity := c }

/-! ### Stops (R120) -/

/-- The unit in IDLE with all outputs off and nothing in progress; WIRE_IN keeps its value. -/
def Threading.stopped (t : Threading) : Threading :=
  { t with
    state := .idle, work := none, homeWait := false, sever := none, withdraw := none, timer := none, restart := none
    deferred := none, out := .off }

/-- JOB_ABORT and HALT: the unit stops at once, whatever its state (R120). -/
def State.threadingStop (s : State) : State := s.updThreading Threading.stopped

/-- A SEVER in progress goes on to its end, and no requester waits for it. -/
def Threading.severOn (t : Threading) : Threading :=
  { t with work := none, sever := t.sever.map fun v => { v with purpose := .machine } }

/-- CAVITY_ABANDON of the active cavity (R32, R120). -/
def State.threadingAbandon (s : State) (cavity : CavityId) : State :=
  if s.threading.state = .sever then s.updThreading Threading.severOn
  else if s.threading.wireIn then (s.updThreading fun t => { t with work := none }).requestSever cavity
  else if s.threading.state = .jet ∨ s.threading.state = .tension then
    if s.job.state = .paused then
      s.updThreading fun t => { t with work := none, restart := none, deferred := some (.withdraw cavity) }
    else (s.updThreading fun t => { t with work := none }).beginWithdraw { next := .idle, cavity := cavity }
  else s.updThreading Threading.stopped

/-- The active cavity enters FAULTED for GEOMETRY, BREAK_LIMIT or SEPARATION_BREAK (R120). -/
def State.threadingFault (s : State) (cavity : CavityId) : State :=
  if s.threading.state = .sever then s.updThreading Threading.severOn
  else if s.threading.wireIn then (s.updThreading fun t => { t with work := none }).requestSever cavity
  else if s.threading.work.isSome then s.updThreading Threading.stopped
  else s

/-- A break is taken: WIRE_IN is cleared, a THREADED unit goes IDLE, TENSION_ENGAGE goes off (R117, R123). -/
def State.wireBreak (s : State) : State :=
  s.updThreading fun t =>
    { t with
      wireIn := false
      state := if t.state = .threaded then .idle else t.state
      out := { t.out with tensionEngage := false } }

end Sys2Proof.Machine
end

