-- ==== Sys2Proof/Machine/Cavities.lean ====
section
/-! DEFINITION. How a cavity ends (R26, R27), the halt of the job (R23) and the fault policy (R37). -/

namespace Sys2Proof.Machine

/-- The clamp resource returns to FREE; CLAMP_REQ drops and the clamp wait timer is cancelled (R138, R143, R147). -/
def Retention.freed (r : Retention) : Retention := { r with clamp := .free, clampReq := false, timer := none }

/-- A request that stands for a cavity is withdrawn; a HELD clamp is untouched (R147). -/
def State.withdrawRequest (s : State) (i : CavityId) : State :=
  if s.retention.clamp = .requested i then s.updRetention Retention.freed else s

/-- A cavity that enters a final state leaves the separation queue and holds no slot (R27). -/
def State.releaseCavity (s : State) (i : CavityId) : State :=
  (s.freeCavity i).updSepQueue fun q => q.filter fun j => decide (j ≠ i)

/-- A cavity enters FAULTED: its reason is recorded once, its slots are freed, and a request of its own is withdrawn (R27). -/
def State.faultCavity (s : State) (i : CavityId) (reason : FaultReason) : State :=
  (((s.setCavState i .faulted).updCavity i fun c =>
    { c with fault := c.fault <|> some reason, attemptsUsed := 0 }).releaseCavity i).withdrawRequest i

/-- A cavity enters DONE: its slots are freed and CAVITY_DONE is raised for it (R27). -/
def State.doneCavity (s : State) (i : CavityId) : State :=
  ((s.setCavState i .done).releaseCavity i).raiseFor (some i) Event.cavityDone i.val

/-- A cavity enters SKIPPED and leaves the run order (R27). -/
def State.skipCavity (s : State) (i : CavityId) : State :=
  ((s.setCavState i .skipped).releaseCavity i).updRunOrder fun q => q.filter fun j => decide (j ≠ i)

/-- The recovery unit ends its stage (R122). -/
def State.endRecovery (s : State) : State := s.updRecovery fun _ => .idle

/-- The active cavity, if any, enters FAULTED (R23). -/
def State.faultActive (s : State) (reason : FaultReason) : State :=
  match s.job.active with
  | some i => s.faultCavity i reason
  | none => s

/-- The active cavity enters FAULTED by JOB_ABORT or HALT, which change no link port state but the heartbeat timer (R16): whether a
queued notice that the ceasing of the cavity's chains drops (R59, R61) stays all the same (R16) is a free value, looked at for such
a notice alone (notes/assumptions/36.md). -/
def State.faultByHalt (s : State) (reason : FaultReason) : State :=
  (s.faultActive reason).updLink fun l =>
    { l with notices := s.link.notices.filter fun n => decide (n ∈ l.notices) || Config.haltKeepsNotices }

/-- A REQUESTED clamp returns to FREE, whoever requested it (R23). -/
def State.dropRequest (s : State) : State :=
  match s.retention.clamp with
  | .requested _ => s.updRetention Retention.freed
  | _ => s

/-- The job enters HALTED from RUNNING or PAUSED: the active cavity faults with the reason given, and engine, threading unit,
recovery unit and clamp request stop (R23). Nothing in another job state. -/
def State.haltJob (s : State) (reason : FaultReason) : State :=
  match s.job.state with
  | .running | .paused =>
    ((((((s.faultByHalt reason).engineStop).threadingStop).endRecovery).dropRequest).updJob fun j =>
      { j with state := .halted, reasons := Reasons.none }).stopHeartbeat
  | _ => s

/-- The fault policy, after the failed cavity has left the active states (R37). -/
def State.faultPolicy (s : State) : State :=
  match s.params.faultPolicy with
  | .skip => s
  | .halt => s.haltJob .halted

end Sys2Proof.Machine
end

