-- ==== Sys2Proof/Machine/Retention.lean ====
section
/-! DEFINITION. The retention unit's shared operations (chapter 8): the decision at the hold, the clamp request and its
confirmation, the degradation with its re-derived skim origins, and the separation chain's building and dismantling. -/

namespace Sys2Proof.Machine

/-! ### Re-derived skim origins (R145) -/

def Segment.shift (d : Point) (g : Segment) : Segment := { g with start := g.start.add d, stop := g.stop.add d }

/-- Every stored point of a chain moved by a shift (R145). -/
def Chain.shift (d : Point) (c : Chain) : Chain :=
  { c with
    segs := c.segs.map (Segment.shift d)
    holdPoint := if c.holdOffset.isSome then c.holdPoint.add d else c.holdPoint
    endPoint := c.endPoint.add d }

/-- The skim chain after a pass whose chain was `old` and now is `new`: moved by the new hold point minus the old CLOSE end
point; a chain with nothing appended has nothing to move (R145). -/
def shiftAfter (old new : Chain) (c : Chain) : Chain :=
  if c.appended = 0 then c else c.shift (new.holdPoint.sub old.endPoint)

/-- The cavity with its skim chains moved to their bridged origins (R145). -/
def Cavity.shiftSkims (c : Cavity) : Cavity :=
  let p0 := c.passes[(0 : PassIx)]
  let p1 := c.passes[(1 : PassIx)]
  let p2 := c.passes[(2 : PassIx)]
  let p3 := c.passes[(3 : PassIx)]
  let n1 := shiftAfter p0.chain p0.chain p1.chain
  let n2 := shiftAfter p1.chain n1 p2.chain
  let n3 := shiftAfter p2.chain n2 p3.chain
  { c with passes := #v[p0, { p1 with chain := n1 }, { p2 with chain := n2 }, { p3 with chain := n3 }] }

/-- Every end point of the skim chains lies within the coordinate range (R145). -/
def Cavity.skimsInRange (c : Cavity) : Bool :=
  [(1 : PassIx), 2, 3].all fun k => (c.passes[k]).chain.segs.all fun g => g.stop.inRange

/-! ### The outcomes of the pass-0 hold -/

/-- The bridge is parked; true when pass 0 completes now because its CLOSE is among the parked segments, else the engine waits
for it (R57, R91, R93). -/
def State.parkBridge (s : State) : State × Bool :=
  let s1 := s.updActive Cavity.park
  match s.activeCavity with
  | some c => if (c.passes[(0 : PassIx)]).chain.closed then (s1, true) else (s1.waitAtHold, false)
  | none => (s1, false)

/-- The degradation of a CLAMP cavity, cause 1 TIMEOUT or 2 BUSY (R144, R145). -/
def State.degrade (s : State) (cause : Nat) : State × Bool :=
  match s.job.active, s.activeCavity with
  | some i, some c =>
    let s1 := s.updActive fun v => { v with effective := some .bridge }
    let shifted := c.shiftSkims
    if shifted.skimsInRange then
      ((s1.updActive fun v => { v with passes := shifted.passes }).raise Event.retentionDegraded cause).parkBridge
    else
      ((((s1.raise Event.retentionDegraded (cause + 256)).faultCavity i .geometry).engineStop).threadingFault i, false)
  | _, _ => (s, false)

/-- The confirmation of a request: HELD, effective method CLAMP, and the engine leaves CLAMP_WAIT for CUTTING, or a PAUSED
engine will (R142). -/
def State.confirmClamp (s : State) (i : CavityId) : State :=
  ((s.updRetention fun r => { r with clamp := .held i, timer := none }).updCavity i fun c =>
    { c with effective := some .clamp }).updEngine fun e =>
      match e.state with
      | .clampWait => { e.servoReset with state := .cutting }
      | .paused => if e.resume = some .clampWait then { e with resume := some .cutting } else e
      | _ => e

/-- The clamp wait starts, or a sensor already high confirms at once (R140, R146). -/
def State.startClampWait (s : State) (i : CavityId) : State :=
  if s.pins.clampSense then s.confirmClamp i
  else s.updRetention fun r => { r with timer := some s.params.clampWait }

/-- The clamp request (R140). -/
def State.requestClamp (s : State) (i : CavityId) : State :=
  ((s.updRetention fun r => { r with clamp := .requested i, clampReq := true }).setEngineState .clampWait).startClampWait i

/-- The hold is reached: the retention decision for pass 0 (R139, R140, R141), the discard for a skim pass (R58, R90). True
when the pass completes now. -/
def State.reachHold (s : State) : State × Bool :=
  match s.engine.chain, s.job.active, s.activeCavity with
  | some (.pass k), some i, some c =>
    if k = 0 then
      match c.planned with
      | .bridge => (s.updActive fun v => { v with effective := some .bridge }).parkBridge
      | .clamp =>
        match s.retention.clamp with
        | .free => (s.requestClamp i, false)
        | _ => s.degrade 2
      | .none => (s, false)
    else
      let s1 := s.discardFromHold k
      if (c.passes[k]).chain.closed then (s1, true) else (s1.waitAtHold, false)
  | _, _, _ => (s, false)

/-! ### The separation chain (R151, R152, R155) -/

/-- The rough contour closes on itself: the end of the CLOSE segment, on top of the bridge stack, is the start point of ENTRY
(R151). -/
def Cavity.contourCloses (c : Cavity) : Bool :=
  match c.bridge.getLast? with
  | some g => decide (g.stop = (match c.leadIn.getLast? with
    | some l => l.stop
    | none => c.hole))
  | none => false

/-- A lead-in segment as it enters the separation chain: DRY, QUEUED (R152). -/
def Segment.toLeadIn (g : Segment) : Segment := { g with mode := .dry, state := .queued }

/-- A bridge segment as it enters the separation chain: reversed, CUT, in the separation class, without flags, QUEUED (R152). -/
def Segment.toReversed (cls : ClassIx) (g : Segment) : Segment :=
  { g with
    start := g.stop, stop := g.start, dx := -g.dx, dy := -g.dy, mode := .cut, feedClass := cls
    entry := false, hold := false, close := false, state := .queued }

/-- Sequences and start offsets in the order of the list (R152). -/
def renumber : Nat → Nat → List Segment → List Segment
  | _, _, [] => []
  | n, o, g :: l => { g with seq := n, s0 := o } :: renumber (n + 1) (o + g.len) l

/-- The segments of the separation chain (R152). -/
def Cavity.separationSegs (c : Cavity) : List Segment :=
  renumber 0 0 (c.leadIn.map Segment.toLeadIn ++ (c.bridge.map (Segment.toReversed c.sepClass)).reverse)

/-- The separation chain is built from the cavity's lead-in list and bridge stack, which are then empty (R152). There is one
separation chain (R39): the slots of another, which no run leaves behind, return to the pool (notes/assumptions/32.md). -/
def State.buildSeparation (s : State) (i : CavityId) (c : Cavity) : State :=
  let segs := c.separationSegs
  let chain : Chain :=
    { Chain.new s.store.nextSerial with
      segs := segs, appended := segs.length, nextSeq := segs.length, closed := true, endOffset := totalLength segs
      endPoint := match segs.getLast? with
        | some g => g.stop
        | none => c.hole }
  (s.updCavity i fun v => { v with leadIn := [], bridge := [] }).updStore fun t =>
    { t with
      free := t.free + heldBy t.separation
      separation := some { owner := i, chain := chain }
      nextSerial := t.nextSerial + 1 }

/-- A bridge segment turned back to its forward geometry (R155). -/
def Segment.turnedBack (g : Segment) : Segment :=
  { g with start := g.stop, stop := g.start, dx := -g.dx, dy := -g.dy, state := .parked }

/-- A cavity's separation chain whose threading failed is taken apart into the lead-in list and the bridge stack (R155). -/
def State.dismantle (s : State) (i : CavityId) : State :=
  match s.store.separation with
  | some o =>
    if o.owner = i then
      (s.updCavity i fun v =>
        { v with
          leadIn :=
            v.leadIn ++ (o.chain.segs.filter fun g => decide (g.mode = .dry)).map fun g => { g with state := .leadIn }
          bridge := v.bridge ++ ((o.chain.segs.filter fun g => decide (g.mode = .cut)).reverse.map Segment.turnedBack) }
        ).separationCeases
    else s
  | none => s

end Sys2Proof.Machine
end

