-- ==== Sys2Proof/Machine/Path.lean ====
section
/-! DEFINITION. How chains start and passes complete (chapter 5.2, 5.7): the chain start with its seat move (R80, R81), the
completion of a pass (R94), and the end of the last pass (R95). A pair's Bool says that the active pass completes now. -/

namespace Sys2Proof.Machine

/-- The path state of a chain start, with the engine working along the chain (R80). -/
def Engine.atStart (r : ChainRef) (e : Engine) : Engine :=
  { e.servoReset with state := .cutting, chain := some r, p := 0, h := 0, floor := 0, move := none, resume := none }

/-- The pass record goes from NOT_STARTED to ACTIVE (R79). -/
def State.activatePass (s : State) (r : ChainRef) : State :=
  match r with
  | .pass k => s.updActive fun c => c.updPass k fun p => { p with state := .active }
  | _ => s

/-- With the engine at the chain's origin, the first case that applies (R80): no segment, a hold at offset 0, or CUTTING. -/
def State.chainBegin (s : State) : State × Bool :=
  match s.activeChain with
  | some c =>
    if c.appended = 0 then (s.enterStarved, false)
    else if s.atHold then s.reachHold
    else (s.setEngineState .cutting, false)
  | none => (s, false)

/-- The start point of a chain of the active cavity (R42, R80). -/
def State.originOf (s : State) (r : ChainRef) : Point :=
  match s.activeCavity with
  | some c => c.origin r
  | none => s.engine.commanded

/-- A chain start: path state, retrace depth, engagement, then the seat move to the origin where one is needed (R80, R81). -/
def State.chainStart (s : State) (r : ChainRef) : State × Bool :=
  let s1 := (((s.updChain r fun c => { c with depth := s.params.retrace }).activatePass r).updEngine (Engine.atStart r)).engage
  if s1.engine.commanded = s1.originOf r then s1.chainBegin
  else (s1.beginMove (s1.originOf r) .chainSeat, false)

/-- The effective method of a NONE cavity is set when its pass 0 completes (R94, step 3). -/
def Cavity.settleNone (k : PassIx) (c : Cavity) : Cavity :=
  if k = 0 ∧ c.planned = .none then { c with effective := some .none } else c

/-- A pass becomes COMPLETE: its record, the retirement of what it holds, the method of a NONE cavity, PASS_DONE (R94, steps 1
to 4). -/
def State.completeSteps (s : State) (k : PassIx) : State :=
  let s1 := s.updActive fun c => c.updPass k fun p => { p with state := .complete, savedP := s.engine.p, savedH := s.engine.h }
  (((s1.retireAll (.pass k)).updFloor).updActive (Cavity.settleNone k)).raise Event.passDone k.val

/-- The last pass has completed: the engine is IDLE with no chain, and the wire is severed (R95, R28). -/
def State.lastPassEnd (s : State) : State :=
  match s.job.active with
  | some i => s.engineStop.beginSever .full .lastPass i
  | none => s.engineStop

/-- After a completed pass: the next pass starts, or the last pass ends (R94, steps 5 and 6). -/
def State.nextPass (s : State) (k : PassIx) : State × Bool :=
  match s.activeCavity with
  | some c =>
    if h : k.val + 1 < 4 then
      if k.val + 1 < c.passCount then
        (s.updActive fun v => { v with currentPass := ⟨k.val + 1, h⟩ }).chainStart (.pass ⟨k.val + 1, h⟩)
      else (s.lastPassEnd, false)
    else (s.lastPassEnd, false)
  | none => (s, false)

/-- The active pass completes, and so does each pass after it whose CLOSE its own start discards; at most `n` passes (R94). -/
def State.completePasses : Nat → State → State
  | 0, s => s
  | n + 1, s =>
    match s.engine.chain with
    | some (.pass k) =>
      let r := (s.completeSteps k).nextPass k
      if r.2 then State.completePasses n r.1 else r.1
    | _ => s

/-- The passes a completion can run through: a cavity has at most four. -/
def maxPasses : Nat := 4

/-- An outcome whose Bool says that the active pass completes now, carried through. -/
def settle (r : State × Bool) : State := if r.2 then State.completePasses maxPasses r.1 else r.1

/-- A chain start carried through. -/
def State.runChain (s : State) (r : ChainRef) : State := settle (s.chainStart r)

/-- The separation chain's record after its end: gone with it (R154), or kept without a segment until its cavity leaves
SEPARATING (R39, R151). The rules differ, so the model leaves it free (notes/assumptions/14.md). -/
def State.dropEndedSeparation (s : State) : State :=
  if Config.separationCeasesAtEnd then s.separationCeases else s

/-- Where the commanded position is held after a separation chain: at the start hole (R96), or where the last step of the chain
left it, at the pass-0 hold point (R77, R152, chapter 12.7). The rules differ, so the model leaves it free
(notes/assumptions/35.md). -/
def State.placeAtSeparationEnd (s : State) (i : CavityId) : State :=
  if Config.separationHoldsAtHole then s.updEngine fun e => { e with commanded := s.holeOf i } else s

/-- The separation chain ends: what it holds is freed, the engine is IDLE, SEPARATION_DONE is raised and the wire severed (R96,
R154). What becomes of its record is free (notes/assumptions/14.md), and so is the position that is held
(notes/assumptions/35.md). -/
def State.separationEnd (s : State) : State :=
  match s.job.active with
  | some i =>
    ((((s.retireAll .separation).dropEndedSeparation.engineStop).placeAtSeparationEnd i).raise Event.separationDone i.val
      ).beginSever .full .separation i
  | none => s

end Sys2Proof.Machine
end

