-- ==== Sys2Proof/Machine/Recovery.lean ====
section
/-! DEFINITION. The recovery unit's shared operations (chapter 7) and the outcomes of threadings (R121): resuming, the hole route,
the kerf route, breaks, and what each requester does with a success or a failure. -/

namespace Sys2Proof.Machine

def State.setStage (s : State) (st : Stage) : State := s.updRecovery fun r => { r with stage := st }

/-- Work that a step would begin in a PAUSED job waits for its return to RUNNING (R135). -/
def State.startOrPend (s : State) (start : State → State) : State :=
  if s.job.state = .paused then s.updRecovery fun r => { r with startPending := true } else start s

/-! ### Resuming (R82, R133) -/

/-- The engine's chain is the current pass again, with the P and H saved in its record (R96, R134). -/
def State.backToPass (s : State) : State :=
  match s.activeCavity with
  | some c =>
    (s.updEngine fun e =>
      { e with
        chain := some (.pass c.currentPass), p := (c.passes[c.currentPass]).savedP, h := (c.passes[c.currentPass]).savedH }
      ).updFloor
  | none => s

/-- P stands on the starvation point of the active chain (R82, R88). -/
def State.atStarvation (s : State) : Bool :=
  match s.activeChain with
  | some c => !c.closed && decide (s.engine.p = c.endOffset)
  | none => false

/-- The active pass is AT_HOLD. -/
def State.passAtHold (s : State) : Bool :=
  match s.engine.chain, s.activeCavity with
  | some (.pass k), some c => decide ((c.passes[k]).state = .atHold)
  | _, _ => false

/-- After a restore, the first case that applies (R82): AT_HOLD, the starvation point, the hold, or CUTTING. -/
def State.afterRestore (s : State) : State :=
  if s.passAtHold then s.enterStarved
  else if s.atStarvation then s.enterStarved
  else if s.atHold then settle s.reachHold
  else s

/-- The broken pass chain is restored at an offset (R82); the cavity is CUTTING and the recovery over (R133). -/
def State.restore (s : State) (i : CavityId) (c : Cavity) (o : Nat) : State :=
  let r : ChainRef := .pass c.currentPass
  let s1 := (s.setCavState i .cutting).endRecovery
  let s2 := s1.updEngine fun e =>
    { e.servoReset with
      state := .cutting, chain := some r, p := o, move := none, resume := none, commanded := s1.positionAt r o }
  (s2.updFloor.engage).afterRestore

/-- A broken pass that its CLOSE completed is not restored: it completes now, or only goes on to the next pass when its
completion was taken during a pause (R133). -/
def State.completeBroken (s : State) (i : CavityId) (c : Cavity) (o : Nat) : State :=
  let k := c.currentPass
  let s1 := ((s.setCavState i .cutting).endRecovery).updEngine fun e =>
    { e with chain := some (.pass k), p := o, h := o, move := none, resume := none }
  if (c.passes[k]).state = .complete then settle (s1.nextPass k) else State.completePasses maxPasses s1

/-- RESUMING with the commanded position at the resume point (R133). -/
def State.resumeNow (s : State) : State :=
  match s.job.active, s.activeCavity, s.recovery.resumePoint with
  | some i, some c, some rp =>
    if s.recovery.closePending then
      s.completeBroken i c (((c.passes[c.currentPass]).chain.holdOffset).getD rp.offset)
    else s.restore i c rp.offset
  | _, _, _ => s

/-- The work of RESUMING: a seat move to the resume point where one is needed, then the restore (R82, R133). -/
def State.beginResuming (s : State) : State :=
  match s.recovery.resumePoint with
  | some rp => if s.engine.commanded = rp.pos then s.resumeNow else s.beginMove rp.pos .restoreSeat
  | none => s

/-- Entry to RESUMING (R133, R135). -/
def State.enterResuming (s : State) : State := (s.setStage .resuming).startOrPend State.beginResuming

/-- The reroute chain ends: what it holds is freed, the chain ceases, the engine is BROKEN with the broken pass chain as its
chain, and the stage becomes RESUMING (R96, R132). -/
def State.rerouteEnd (s : State) : State :=
  ((((s.retireAll .reroute).rerouteCeases).engineBroken).backToPass).enterResuming

/-- A step has brought H to the end offset of the active chain's last segment, with CLOSE accepted (R94, R96). -/
def State.chainEnd (s : State) : State :=
  match s.engine.chain with
  | some (.pass _) => State.completePasses maxPasses s
  | some .reroute => s.rerouteEnd
  | some .separation => s.separationEnd
  | none => s

/-! ### The hole route (R130, R131) -/

/-- The move of TO_HOLE has arrived: a threading at the start hole for recovery (R130). -/
def State.holeArrived (s : State) : State :=
  match s.job.active with
  | some i => (s.setStage .holeThread).beginThreading .recovery (s.holeOf i) i
  | none => s

/-- The rapid move of TO_HOLE is requested; a commanded position at the hole arrives at once (R130). -/
def State.requestHole (s : State) : State :=
  match s.job.active with
  | some i => if s.engine.commanded = s.holeOf i then s.holeArrived else s.beginMove (s.holeOf i) .toHole
  | none => s

/-- Entry to TO_HOLE with nothing to wait for but the job (R130, R135). -/
def State.enterToHole (s : State) : State := (s.setStage .toHole).startOrPend State.requestHole

/-- Entry to AWAIT_REROUTE: REROUTE_NEEDED is raised (R131). -/
def State.enterAwaitReroute (s : State) : State :=
  (s.setStage .awaitReroute).raise Event.rerouteNeeded
    (((s.activeCavity.map fun c => c.breakCount).getD 0) + 256 * s.recovery.inKerf)

/-- The reroute chain is handed to the engine: the pass chain's P and H are saved, and the chain starts (R97, R131). -/
def State.startReroute (s : State) : State :=
  match s.activeCavity with
  | some c =>
    (s.updActive fun v => v.updPass c.currentPass fun p => { p with savedP := s.engine.p, savedH := s.engine.h }).runChain
      .reroute
  | none => s

/-- The first reroute segment is accepted: the stage becomes REROUTE (R131, R135). -/
def State.enterReroute (s : State) : State := (s.setStage .reroute).startOrPend State.startReroute

/-! ### The kerf route (R128, R129) -/

/-- The stub SEVER has ended: the kerf threading, or TO_HOLE for a profile with no kerf attempts (R128). -/
def State.stubDone (s : State) : State :=
  match s.job.active, s.recovery.breakPoint with
  | some i, some b =>
    if 0 < (s.profileOf i).kerfAttempts then (s.setStage .kerfThread).beginThreading .kerf b.pos i else s.enterToHole
  | _, _ => s

/-- The stub SEVER of STUB_CUT (R128). -/
def State.beginStub (s : State) : State :=
  match s.job.active with
  | some i => s.beginSever .stub .stubCut i
  | none => s

/-- The kerf threading has succeeded: the dry retrace to a resume point behind the break, or RESUMING at once (R129). -/
def State.kerfSuccess (s : State) (attempts : Nat) : State :=
  let s1 := s.updRecovery fun r => { r with inKerf := attempts }
  match s.recovery.resumePoint with
  | some rp => if rp.offset < s.engine.p then s1.beginTraverse rp.offset else s1.enterResuming
  | none => s1

/-- The kerf threading has failed: TO_HOLE, whose move waits for the last withdraw (R129). -/
def State.kerfFailed (s : State) (attempts : Nat) : State :=
  s.updRecovery fun r => { r with inKerf := attempts, stage := .toHole }

/-- A withdraw has ended: a TO_HOLE that waited for it requests its move, in a PAUSED job at the return to RUNNING (R129, R130,
R135). -/
def State.afterWithdraw (s : State) : State :=
  if s.recovery.stage = .toHole ∧ s.engine.state = .broken then s.startOrPend State.requestHole else s

/-- The work that a return to RUNNING begins for the stage that waited (R135). -/
def State.startPendingWork (s : State) : State :=
  let s1 := s.updRecovery fun r => { r with startPending := false }
  if s.recovery.startPending then
    match s.recovery.stage with
    | .stubCut => s1.beginStub
    | .toHole => s1.requestHole
    | .reroute => s1.startReroute
    | .resuming => s1.beginResuming
    | _ => s1
  else s

/-! ### Outcomes of a threading (R121) -/

/-- The threading ends: the cavity's attempts used returns to 0 (R107). -/
def State.endWork (s : State) (w : Attempting) : State :=
  (s.updThreading fun t => { t with work := none }).updCavity w.cavity fun c => { c with attemptsUsed := 0 }

/-- A success handed to its requester (R121). -/
def State.handSuccess (s : State) (w : Attempting) : State :=
  match w.purpose with
  | .cutting =>
    match s.job.active with
    | some i => (s.setCavState i .cutting).runChain (.pass 0)
    | none => s
  | .separation => s.runChain .separation
  | .recovery => s.enterAwaitReroute
  | .kerf => s.kerfSuccess w.attempt

/-- A failure handed to its requester (R114, R121): the code of an exhausted HOLE threading names the cavity it ended, and the
fault policy follows. -/
def State.handFailed (s : State) (w : Attempting) : State :=
  match w.purpose with
  | .cutting =>
    (((s.faultCavity w.cavity .threadExhausted).engineStop).raiseFor (some w.cavity) Event.threadExhausted w.attempt
      ).faultPolicy
  | .separation =>
    (((s.dismantle w.cavity).setCavState w.cavity .retained).raiseFor (some w.cavity) Event.threadExhausted w.attempt
      ).faultPolicy
  | .recovery =>
    ((((s.faultCavity w.cavity .threadExhausted).engineStop).endRecovery).raiseFor (some w.cavity) Event.threadExhausted
      w.attempt).faultPolicy
  | .kerf => s.kerfFailed w.attempt

/-- A failed attempt, cause 1 pass timeout, 2 tension timeout (R113): outputs off, THREAD_FAIL, WITHDRAW; an exhausted threading
ends and its outcome is handed while the withdraw runs (R114). -/
def State.attemptFailed (s : State) (cause : Nat) : State :=
  match s.threading.work with
  | some w =>
    let s1 := s.raise Event.threadFail (w.attempt + 256 * cause)
    if attemptCount (s.profileOf w.cavity) w.purpose ≤ w.attempt then
      ((s1.beginWithdraw { next := .failed, cavity := w.cavity }).endWork w).handFailed w
    else s1.beginWithdraw { next := .nextAttempt, cavity := w.cavity }
  | none => s

/-! ### Breaks (R123 to R127, R134) -/

/-- The break point (R124, step 2): P of the pass chain, or the hold of a pass already completed during a pause. -/
def State.breakPointOf (s : State) (k : PassIx) (p : PassRec) : PathPoint :=
  if p.state = .complete then { offset := p.chain.holdOffset.getD s.engine.p, pos := p.chain.holdPoint }
  else { offset := s.engine.p, pos := s.positionAt (.pass k) s.engine.p }

/-- The resume point of a first break (R125); `waiting` says that the engine stood in CLAMP_WAIT. -/
def State.resumePointOf (s : State) (p : PassRec) (b : PathPoint) (waiting : Bool) : PathPoint :=
  if decide (p.state = .atHold) || decide (p.state = .complete) || waiting then
    { offset := p.chain.holdOffset.getD b.offset, pos := p.chain.holdPoint }
  else
    match s.params.resumePolicy, p.chain.containing s.engine.p with
    | .atSegmentStart, some g =>
      let o := max g.s0 s.engine.floor
      { offset := o, pos := g.position o }
    | _, _ => b

/-- The engine stands in CLAMP_WAIT, or is PAUSED out of it (R124, R147). -/
def State.inClampWait (s : State) : Bool :=
  decide (s.engine.state = .clampWait) || (decide (s.engine.state = .paused) && decide (s.engine.resume = some .clampWait))

/-- The break count of a cavity reaches the break limit (R124, R126). -/
def State.limitReached (s : State) (c : Cavity) : Bool := decide (s.params.breakLimit ≤ c.breakCount + 1)

/-- A break ends in a fault: BREAK_LIMIT with the break count, the fault policy, and under SKIP the fault sever (R126). -/
def State.breakLimitFault (s : State) (i : CavityId) (count : Nat) : State :=
  let s1 := ((((s.faultCavity i .breakLimit).engineStop).endRecovery).threadingFault i).raiseFor (some i) Event.breakLimit
    count
  match s1.params.faultPolicy with
  | .skip => s1.requestSever i
  | .halt => s1.faultPolicy

/-- A first break of the active cavity `i`, on pass `k` (R124). -/
def State.firstBreak (s : State) (i : CavityId) (c : Cavity) (k : PassIx) : State :=
  let p := c.passes[k]
  let b := s.breakPointOf k p
  let rp := s.resumePointOf p b s.inClampWait
  let s1 := ((s.engineBroken).wireBreak).withdrawRequest i
  let s2 := s1.updCavity i fun v => { v with breakCount := v.breakCount + 1 }
  if s.limitReached c then s2.breakLimitFault i (c.breakCount + 1)
  else
    ((s2.setCavState i .breakRecovery).updRecovery fun _ =>
      { stage := .stubCut, breakPoint := some b, resumePoint := some rp, inKerf := 0
        closePending := decide (p.state = .complete), startPending := false }).startOrPend State.beginStub

/-- The running reroute chain gives the engine back to the broken pass chain; the chain ceases (R134, step 2). -/
def State.dropReroute (s : State) : State :=
  if s.engine.chain = some .reroute then s.discardReroute.backToPass else s.discardReroute

/-- A break during recovery of the active cavity `i` (R134). -/
def State.breakAgain (s : State) (i : CavityId) (c : Cavity) : State :=
  let s1 := ((s.engineBroken).wireBreak).dropReroute
  let s2 := s1.updCavity i fun v => { v with breakCount := v.breakCount + 1 }
  if s.limitReached c then s2.breakLimitFault i (c.breakCount + 1)
  else (s2.updRecovery fun r => { r with startPending := false }).enterToHole

/-- A separation break (R127): the cavity faults, the fault policy does not apply, and the fault sever is asked for. -/
def State.separationBreak (s : State) (i : CavityId) : State :=
  (((s.wireBreak).faultCavity i .separationBreak).engineStop.threadingFault i).requestSever i

/-- The stages in which a break during recovery is taken (R123); the wire is in during the first only after its threading. -/
def Stage.breakable : Stage → Bool
  | .kerfThread | .awaitReroute | .reroute | .resuming => true
  | _ => false

/-- The BREAK action reaches the recovery unit: taken when WIRE_IN is set and the active cavity's state allows, without effect
otherwise (R123). -/
def State.takeBreak (s : State) : State :=
  match s.threading.wireIn, s.job.active, s.activeCavity with
  | true, some i, some c =>
    match c.state with
    | .cutting =>
      match s.engine.chain with
      | some (.pass k) => s.firstBreak i c k
      | _ => s
    | .breakRecovery => if s.recovery.stage.breakable then s.breakAgain i c else s
    | .separating => s.separationBreak i
    | _ => s
  | _, _, _ => s

end Sys2Proof.Machine
end

