-- ==== Sys2Proof/Machine/Control.lean ====
section
/-! DEFINITION. Pausing and resuming the job (R21, R22), handing the actions of raised codes (R158), the sequencer (R34 to R36),
and what closes every command: the hand-over, the selections, the generator enable, the transmitter. -/

namespace Sys2Proof.Machine

/-! ### Pause (R21) -/

/-- The blocks suspend as the job enters PAUSED (R21, R99, R118, R146). -/
def State.suspendBlocks (s : State) : State :=
  ((s.stopHeartbeat.engineSuspend).updThreading Threading.suspend).updRetention fun r => { r with timer := none }

/-- A pause reason is added: the first pauses a RUNNING job, a further one only joins the set, and outside RUNNING and PAUSED
nothing is added (R21). -/
def State.addReason (s : State) (add : Reasons → Reasons) : State :=
  match s.job.state with
  | .running => (s.updJob fun j => { j with state := .paused, reasons := add j.reasons }).suspendBlocks
  | .paused => s.updJob fun j => { j with reasons := add j.reasons }
  | _ => s

def Reasons.addHost (r : Reasons) : Reasons := { r with host := true }
def Reasons.addEvent (r : Reasons) : Reasons := { r with event := true }
def Reasons.addInterlock (r : Reasons) : Reasons := { r with interlock := true }
def Reasons.addLinkSilent (r : Reasons) : Reasons := { r with linkSilent := true }

/-! ### Resume (R22) -/

/-- The active pass was completed by a CLOSE taken while the engine was PAUSED out of STARVED (R100). -/
def State.completedInPause (s : State) : Option PassIx :=
  match s.engine.chain, s.activeCavity with
  | some (.pass k), some c => if (c.passes[k]).state = .complete then some k else none
  | _, _ => none

/-- A PAUSED engine leaves for its resume state (R101). -/
def State.engineResumeTo (s : State) (target : EngineState) : State :=
  s.updEngine fun e => { e with state := target, resume := none }

/-- A CLAMP_WAIT returned to restarts its wait in full, or confirms at once (R101, R146). -/
def State.restartClampWait (s : State) : State :=
  match s.retention.clamp with
  | .requested i => s.startClampWait i
  | _ => s

/-- The engine leaves PAUSED, its servo state reset (R22, R66), for the state recorded: a hold deferred in the pause is reached
now, a pass completed in the pause out of STARVED goes on to the next, a move continues, a clamp wait restarts (R101). -/
def State.engineRestart (s : State) : State :=
  match s.engine.resume with
  | some .cutting =>
    let s1 := s.engineResumeTo .cutting
    if s1.atHold then settle s1.reachHold else s1
  | some .starved =>
    match s.completedInPause with
    | some k => settle ((s.engineResumeTo .cutting).nextPass k)
    | none => s.engineResumeTo .starved
  | some .clampWait => (s.engineResumeTo .clampWait).restartClampWait
  | some st => s.engineResumeTo st
  | none => s

/-- The engine at the job's return to RUNNING: every resume from PAUSED resets the servo state (R22, R66, R101). -/
def State.engineResume (s : State) : State :=
  match s.engine.state with
  | .paused => s.servoReset.engineRestart
  | _ => s

/-- The job returns to RUNNING, and each suspended block restarts: the engine with the retention unit, the threading unit, what
was deferred, the recovery unit (R22, R101, R119, R135). -/
def State.resumeJob (s : State) : State :=
  (((((s.updJob fun j => { j with state := .running, reasons := Reasons.none }).startHeartbeat).engineResume).threadingRestart
    ).startDeferred).startPendingWork

/-- Pause reasons are removed from a PAUSED job; the removal of the last returns it to RUNNING (R22). -/
def State.removeReasons (s : State) (remove : Reasons → Reasons) : State :=
  match s.job.state with
  | .paused =>
    if (remove s.job.reasons).isEmpty then s.resumeJob
    else s.updJob fun j => { j with reasons := remove j.reasons }
  | _ => s

/-! ### Handing the actions of a raised code (R158) -/

/-- The PAUSE action: LINK_SILENT for code 13, EVENT for any other (R21, R157). -/
def State.pauseAction (s : State) (code : Code) : State :=
  s.addReason (if code = Event.linkSilent then Reasons.addLinkSilent else Reasons.addEvent)

/-- The actions of an entry that follow LOG and NOTIFY, in their order: BREAK, HALT, PAUSE, the outputs (R158). -/
def State.hand (s : State) (r : Raised) : State :=
  let s1 := if hasBreak r.actions then s.takeBreak else s
  let s2 := if hasHalt r.actions then s1.haltJob .halted else s1
  let s3 := if hasPause r.actions then s2.pauseAction r.code else s2
  s3.allOutputActions r.actions

/-- The entries raised are handed one whole entry after another, a code raised on the way after the entry that caused it
(R158); `n` bounds their number. -/
def State.drainWith : Nat → State → State
  | 0, s => s.updRaised fun _ => []
  | n + 1, s =>
    match s.raised with
    | r :: rest => State.drainWith n ((s.updRaised fun _ => rest).hand r)
    | [] => s

/-- More entries than one command can raise: no chain of actions is longer. -/
def drainBound : Nat := 256

def State.drain (s : State) : State := State.drainWith drainBound s

/-! ### The sequencer (R34 to R36) -/

/-- A selection can be made (R35). -/
def State.canSelect (s : State) : Bool :=
  decide (s.job.state = .running) && s.job.active.isNone && decide (s.engine.state = .idle) &&
    decide (s.threading.state ≠ .sever) && decide (s.threading.state ≠ .withdraw)

/-- The cavity with an id is in a state. -/
def State.cavityIn (s : State) (i : CavityId) (st : CavState) : Bool :=
  match s.cavity i with
  | some c => decide (c.state = st)
  | none => false

/-- The first PLANNED id of the run order (R35). -/
def State.firstPlanned (s : State) : Option CavityId := s.runOrder.find? fun i => s.cavityIn i .planned

/-- A RETAINED cavity not yet queued and never selected for separation (R34). -/
def State.fillable (s : State) (i : CavityId) : Bool :=
  match s.cavity i with
  | some c => decide (c.state = .retained) && !c.sepSelected && !s.sepQueue.contains i
  | none => false

/-- AT_END fills the separation queue in run order when no cavity is PLANNED and none is active (R34). -/
def State.fillQueue (s : State) : State :=
  if s.params.separationPolicy = .atEnd ∧ s.firstPlanned = none ∧ s.job.active = none then
    s.updSepQueue fun q => q ++ s.runOrder.filter s.fillable
  else s

/-- The purpose of the threading that a selection leads to (R36). -/
def State.selectedPurpose (s : State) : Purpose :=
  match s.activeCavity with
  | some c => if c.state = .separating then .separation else .cutting
  | none => .cutting

/-- The wire stands over the selected cavity's start hole: its threading begins (R36, R107). -/
def State.threadSelected (s : State) (i : CavityId) : State := s.beginThreading s.selectedPurpose (s.holeOf i) i

/-- The rapid move to the selected cavity's start hole, which ends at once when the position is already there (R36). -/
def State.moveToSelected (s : State) (i : CavityId) : State :=
  if s.engine.commanded = s.holeOf i then s.threadSelected i else s.beginMove (s.holeOf i) .sequencer

/-- A cavity selected for cutting (R36). -/
def State.selectCutting (s : State) (i : CavityId) : State :=
  ((s.setCavState i .threading).updCavity i fun c => { c with attemptsUsed := 0 }).moveToSelected i

/-- A cavity selected for separation: its chain is built, or its contour does not close and it faults (R36, R151). -/
def State.selectSeparation (s : State) (i : CavityId) : State :=
  match s.cavity i with
  | some c =>
    let s1 := (s.setCavState i .separating).updCavity i fun v => { v with sepSelected := true, attemptsUsed := 0 }
    if c.contourCloses then (s1.buildSeparation i c).moveToSelected i else s1.faultCavity i .geometry
  | none => s

/-- The cavities in a state. -/
def State.countIn (s : State) (st : CavState) : Nat :=
  (s.cavities.toList.filter fun o =>
    match o with
    | some c => decide (c.state = st)
    | none => false).length

/-- No work is left: the job is COMPLETE, and JOB_COMPLETE carries the number of RETAINED cavities (R35). -/
def State.completeJob (s : State) : State :=
  ((s.updJob fun j => { j with state := .complete, reasons := Reasons.none }).stopHeartbeat).raiseFor none Event.jobComplete
    (s.countIn .retained)

/-- One selection (R35). -/
def State.select (s : State) : State :=
  let s1 := s.fillQueue
  match s1.sepQueue with
  | i :: rest => (s1.updSepQueue fun _ => rest).selectSeparation i
  | [] =>
    match s1.firstPlanned with
    | some i => s1.selectCutting i
    | none => s1.completeJob

/-- Selections are made while their conditions hold: one that faults its cavity leaves the machine free for the next (R151). -/
def State.sequence : Nat → State → State
  | 0, s => s
  | n + 1, s => if s.canSelect then State.sequence n s.select.drain else s

/-- A selection for each cavity of the table, and one that completes the job. -/
def selectionBound : Nat := 66

/-! ### The close of every command -/

/-- After the handling of a command: its raised actions, the selections they leave room for, the generator enable, and the
transmitter (notes/assumptions/9.md, 20.md). -/
def State.finish (atReport : Bool) (s : State) : State :=
  ((State.sequence selectionBound s.drain).refreshGen atReport).startTransmit

end Sys2Proof.Machine
end

