-- ==== Sys2Proof/Machine/Window.lean ====
section
/-! DEFINITION. One window of the cut engine (chapter 4): the cut window, the dry window, the windows of a rapid move and of a
path traverse, the arrivals, and the set-point that ends every window (R83). -/

namespace Sys2Proof.Machine

/-! ### The report (R62) -/

/-- A window report: four counts and the generator's fault flag (R62). -/
structure Report where
  o : Nat
  n : Nat
  a : Nat
  s : Nat
  fault : Bool
deriving DecidableEq, Repr

/-- The report of a message of nine bytes: the low twelve bits of each count, bit 0 of the flags (R180, chapter 11.6); none
for a message of another length. -/
def parseReport (msg : List Byte) : Option Report :=
  if msg.length = 9 then
    some
      { o := u16At msg 0 % 4096, n := u16At msg 2 % 4096, a := u16At msg 4 % 4096, s := u16At msg 6 % 4096
        fault := byteAt msg 8 % 2 = 1 }
  else none

def Report.total (r : Report) : Nat := r.o + r.n + r.a + r.s

/-- The per-mille fractions of a report with T above 0 (R71). -/
def Report.fractions (r : Report) : Fractions :=
  { o := 1000 * r.o / r.total, n := 1000 * r.n / r.total, a := 1000 * r.a / r.total, s := 1000 * r.s / r.total }

/-- The difference of two counts, either way. -/
def absDiff (a b : Nat) : Nat := (a - b) + (b - a)

/-- The stability index of fractions against a reference; 0 while the reference is absent (R71). -/
def stabilityIndex (f : Fractions) (ref : Option Fractions) : Nat :=
  match ref with
  | some r => absDiff f.o r.o + absDiff f.n r.n + absDiff f.a r.a + absDiff f.s r.s
  | none => 0

/-- The working cap (R71). -/
def workingCap (c : FeedClass) (index : Nat) : Nat := if c.theta < index then c.cap / 2 else c.cap

/-- The gap figure of a report with T above 0 (R72). -/
def Report.gapFigure (r : Report) : Nat := (1024 * r.o + 512 * r.n - 512 * r.a) / r.total

/-- The desired step (R72). -/
def desiredStep (c : FeedClass) (cap gap override : Nat) : Nat := min (cap * gap * override / 102400) c.cap

/-- The length of a retract in the `k`-th window of a run: B, 2·B, then 4·B (R69). -/
def retractLength (b k : Nat) : Nat := b * 2 ^ min (k - 1) 2

/-! ### The distance to the next stop point (R73) -/

/-- A segment in a state that the mode boundary of a window in `g` counts: ENGAGED (R73); before a dry window, as the free value
says, a segment of mode CUT in state CUT as well (R69, R153; notes/assumptions/30.md). -/
def Segment.boundsFrom (g x : Segment) : Bool :=
  x.state == .engaged || (x.state == .cut && g.mode == .dry && Config.dryStopsAtCutState)

/-- The mode boundary: the start of the first segment after `g` that counts and whose mode is not the mode of `g` (R73). -/
def Chain.modeBoundary (c : Chain) (g : Segment) : Option Nat :=
  (c.segs.find? fun x => decide (g.s0 < x.s0) && g.boundsFrom x && decide (x.mode ≠ g.mode)).map fun x => x.s0

/-- The end offset of the farthest ENGAGED segment. -/
def Chain.lookAhead (c : Chain) : Option Nat :=
  ((c.segs.filter fun x => decide (x.state = .engaged)).getLast?).map Segment.endOffset

/-- An offset is no farther than a term that is present. -/
def nearer (o : Option Nat) (n : Nat) : Nat :=
  match o with
  | some m => min m n
  | none => n

/-- The hold offset as a stop point: present while the hold applies and P has not passed it (R73, R90). -/
def State.holdAhead (s : State) (c : Chain) : Option Nat :=
  match c.holdOffset with
  | some o => if s.holdApplies ∧ s.engine.p ≤ o then some o else none
  | none => none

/-- The distance from P to the nearest term of R73; the end offset is the starvation point or the chain end. -/
def State.distance (s : State) (c : Chain) (g : Segment) : Nat :=
  nearer (c.modeBoundary g) (nearer c.lookAhead (nearer (s.holdAhead c) c.endOffset)) - s.engine.p

/-! ### The effects of a step (R74) -/

/-- The commanded position at P of the active chain (R67, R77). -/
def State.recommand (s : State) : State :=
  match s.engine.chain with
  | some r => s.updEngine fun e => { e with commanded := s.positionAt r e.p }
  | none => s

/-- What the engine does when a step has brought P to a stop point: the hold first, then the chain end or the starvation point
(R87, R88, R90, R94, R96). -/
def State.atStop (s : State) (c : Chain) : State :=
  if s.atHold then settle s.reachHold
  else if s.engine.p = c.endOffset then (if c.closed then s.chainEnd else s.enterStarved)
  else s

/-- A step's effects, in their order (R74): P and H, engagement, cutting and retirement, the commanded position, the stop point.
`prev` is the previous step it leaves. -/
def State.applyStep (s : State) (c : Chain) (step prev : Nat) : State :=
  let s1 := s.updEngine fun e => { e with p := e.p + step, h := max e.h (e.p + step), prevStep := prev, run := 0 }
  let s2 := if 0 < step then s1.engage else s1
  let s3 := if s.engine.h < s.engine.p + step then s2.advanceH else s2
  let s4 := s3.recommand
  if 0 < step then s4.atStop c else s4

/-! ### The cut window (R67 to R72) -/

/-- No discharge: previous step and k are 0, the reference stays (R68). -/
def State.noDischarge (s : State) : State := (s.updEngine fun e => { e with prevStep := 0, run := 0 }).recommand

/-- A retract, with room or without (R69, R70). -/
def State.retract (s : State) (r : Report) (cls : FeedClass) : State :=
  let k := min (s.engine.run + 1) Config.maxRun
  let room := s.engine.p - s.engine.floor
  let s1 := s.updEngine fun e => { e with prevStep := 0, run := k, reference := some r.fractions }
  if room = 0 then s1.recommand.raise Event.stuckShort k
  else (s1.updEngine fun e => { e with p := e.p - min (retractLength cls.retract k) room }).recommand

/-- The applied step of a forward window (R71 to R74). -/
def State.forwardStep (s : State) (r : Report) (cls : FeedClass) (distance : Nat) : Nat :=
  let cap := workingCap cls (stabilityIndex r.fractions s.engine.reference)
  min (min (desiredStep cls cap r.gapFigure s.feedOverride) (s.engine.prevStep + cls.accel)) distance

/-- A forward window (R71 to R74). -/
def State.forward (s : State) (r : Report) (cls : FeedClass) (c : Chain) (g : Segment) : State :=
  let step := s.forwardStep r cls (s.distance c g)
  (s.updEngine fun e => { e with reference := some r.fractions }).applyStep c step step

/-- A cut window, settled by the first stage that applies (R67). -/
def State.cutWindow (s : State) (r : Report) (c : Chain) (g : Segment) : State :=
  let cls := s.feed[g.feedClass]
  if r.total = 0 ∨ r.fault = true then s.noDischarge
  else if r.total ≤ 4 * r.s then s.retract r cls
  else s.forward r cls c g

/-! ### Dry and rapid windows (R75, R76, R97) -/

/-- A dry window (R75). -/
def State.dryWindow (s : State) (c : Chain) (g : Segment) : State :=
  (s.updEngine fun e => { e with reference := none }).applyStep c (min s.params.drySpeed (s.distance c g)) 0

/-- A rapid move has arrived: the engine's state and the arrival handed to the requester (R36, R76, R81, R97, R110, R130,
R133). -/
def State.arrived (s : State) (purpose : MovePurpose) (back : EngineState) : State :=
  let s1 := s.updEngine fun e => { e with move := none }
  match purpose with
  | .sequencer =>
    match s.job.active with
    | some i => (s1.setEngineState .idle).threadSelected i
    | none => s1.setEngineState .idle
  | .position => (s1.setEngineState back).positionArrived
  | .toHole => (s1.setEngineState .broken).holeArrived
  | .chainSeat => settle (s1.setEngineState .cutting).chainBegin
  | .restoreSeat => (s1.setEngineState .broken).resumeNow

/-- The commanded position of a rapid move at progress q (R76). -/
def rapidPosition (origin target : Point) (q : Nat) : Point :=
  let e := target.sub origin
  { x := origin.x + truncMulDiv e.x q (lengthOf e.x e.y), y := origin.y + truncMulDiv e.y q (lengthOf e.x e.y) }

/-- The length of a rapid move (R76). -/
def rapidLength (origin target : Point) : Nat := lengthOf (target.sub origin).x (target.sub origin).y

/-- A window of a rapid move or of a path traverse (R76, R97). -/
def State.moveWindow (s : State) : State :=
  match s.engine.move with
  | some (.rapid origin target q purpose back) =>
    let q1 := q + min s.params.rapidSpeed (rapidLength origin target - q)
    let s1 := (s.updEngine fun e =>
      { e with commanded := rapidPosition origin target q1, move := some (.rapid origin target q1 purpose back) }).servoReset
    if q1 = rapidLength origin target then s1.arrived purpose back else s1
  | some (.traverse target) =>
    let s1 := ((s.updEngine fun e => { e with p := e.p - min s.params.drySpeed (e.p - target) }).recommand).servoReset
    if s1.engine.p = target then
      (s1.updEngine fun e => { e with state := .broken, move := none }).enterResuming
    else s1
  | none => s

/-- The engine takes a report in its present state (R62). -/
def State.engineWindow (s : State) (r : Report) : State :=
  match s.engine.state with
  | .rapid => s.moveWindow
  | .cutting =>
    match s.activeChain, s.segmentAtP with
    | some c, some g => if g.mode = .cut then s.cutWindow r c g else s.dryWindow c g
    | _, _ => s
  | _ => s

/-! ### The generator watch and the set-point (R63, R83, R85) -/

/-- The generator watch at a report (R63). -/
def State.genReport (s : State) (r : Report) : State :=
  let s1 := s.updGenWatch fun _ => { timer := some Config.silenceTime, latch := r.fault }
  if r.fault && !s.genWatch.latch then s1.raise Event.genFault 1 else s1

/-- The conditions of tracking (R84). -/
def State.tracking (s : State) : Bool :=
  decide (s.engine.state = .idle) &&
    (match s.job.state with
     | .idle | .loading | .halted | .complete => true
     | .running | .paused => false)

/-- A set-point is sent, and the drive reply timer starts if it is not running (R83, R85). -/
def State.sendSetPoint (s : State) : State :=
  (s.updEngine fun e => { e with setPoint := some { pos := e.commanded, track := s.tracking } }).updDriveWatch fun w =>
    { w with timer := w.timer <|> some Config.driveReplyTime }

end Sys2Proof.Machine
end

