-- ==== Sys2Proof/Machine/Operands.lean ====
section
/-! DEFINITION. The records of chapter 11: what a request's payload carries, and the data of a reply. A parse reads the fields
at their offsets; the range checks are in the meanings. -/

namespace Sys2Proof.Machine

/-! ### Enumerations (chapter 11.3) -/

def JobState.code : JobState → Nat
  | .idle => 0 | .loading => 1 | .running => 2 | .paused => 3 | .halted => 4 | .complete => 5

def CavState.code : CavState → Nat
  | .planned => 0 | .threading => 1 | .cutting => 2 | .breakRecovery => 3 | .retained => 4 | .separating => 5 | .done => 6
  | .faulted => 7 | .skipped => 8

def PassState.code : PassState → Nat
  | .notStarted => 0 | .active => 1 | .atHold => 2 | .complete => 3

def EngineState.code : EngineState → Nat
  | .idle => 0 | .rapid => 1 | .cutting => 2 | .starved => 3 | .clampWait => 4 | .paused => 5 | .broken => 6

def ThreadState.code : ThreadState → Nat
  | .idle => 0 | .anneal => 1 | .trim => 2 | .position => 3 | .jet => 4 | .tension => 5 | .withdraw => 6 | .threaded => 7
  | .sever => 8 | .failed => 9

def Stage.code : Stage → Nat
  | .none => 0 | .stubCut => 1 | .kerfThread => 2 | .toHole => 3 | .holeThread => 4 | .awaitReroute => 5 | .reroute => 6
  | .resuming => 7

def Clamp.code : Clamp → Nat
  | .free => 0 | .requested _ => 1 | .held _ => 2

/-- The owner of the clamp resource (R138). -/
def Clamp.owner : Clamp → Option CavityId
  | .free => none | .requested i => some i | .held i => some i

def Method.code : Method → Nat
  | .none => 0 | .bridge => 1 | .clamp => 2

def FaultReason.code : FaultReason → Nat
  | .threadExhausted => 1 | .breakLimit => 2 | .hostAbandon => 3 | .abort => 4 | .halted => 5 | .separationBreak => 6
  | .geometry => 7

def FaultPolicy.code : FaultPolicy → Nat
  | .skip => 0 | .halt => 1

def SeparationPolicy.code : SeparationPolicy → Nat
  | .atEnd => 0 | .onRequest => 1

def ResumePolicy.code : ResumePolicy → Nat
  | .atBreak => 0 | .atSegmentStart => 1

def MapName.code : MapName → Nat
  | .a => 0 | .b => 1

def InterlockMode.code : InterlockMode → Nat
  | .follow => 0 | .latch => 1

def Polarity.code : Polarity → Nat
  | .high => 0 | .low => 1

def ChannelState.code : ChannelState → Nat
  | .idle => 0 | .delaying => 1 | .active => 2

def faultPolicyOf : Nat → Option FaultPolicy
  | 0 => some .skip | 1 => some .halt | _ => none

def separationPolicyOf : Nat → Option SeparationPolicy
  | 0 => some .atEnd | 1 => some .onRequest | _ => none

def resumePolicyOf : Nat → Option ResumePolicy
  | 0 => some .atBreak | 1 => some .atSegmentStart | _ => none

def methodOf : Nat → Option Method
  | 0 => some .none | 1 => some .bridge | 2 => some .clamp | _ => none

def mapOf : Nat → Option MapName
  | 0 => some .a | 1 => some .b | _ => none

def polarityOf : Nat → Option Polarity
  | 0 => some .high | 1 => some .low | _ => none

def interlockModeOf : Nat → Option InterlockMode
  | 0 => some .follow | 1 => some .latch | _ => none

/-- A number as an index below `n`; none outside (R180). -/
def indexOf (n v : Nat) : Option (Fin n) := if h : v < n then some ⟨v, h⟩ else none

/-- A value lies within a range. -/
def within (lo hi v : Nat) : Bool := decide (lo ≤ v) && decide (v ≤ hi)

/-- A coordinate pair, 8 bytes. -/
def encPoint (p : Point) : List Byte := encS32 p.x ++ encS32 p.y

/-! ### Limits record (10 bytes) -/

def parseLimits (bs : List Byte) : Limits :=
  { feedCeil := u16At bs 0, retraceCeil := u16At bs 2, jetCeil := byteAt bs 4, annealCeil := u16At bs 5
    rapidCeil := u16At bs 7, attemptCeil := byteAt bs 9 }

/-- The ranges of the six ceilings (R13). -/
def Limits.valid (l : Limits) : Bool :=
  within 1 400 l.feedCeil && within 1000 50000 l.retraceCeil && within 0 7 l.jetCeil && within 0 2000 l.annealCeil &&
    within 1 3000 l.rapidCeil && within 1 15 l.attemptCeil

def Limits.encode (l : Limits) : List Byte :=
  enc16 l.feedCeil ++ enc16 l.retraceCeil ++ enc8 l.jetCeil ++ enc16 l.annealCeil ++ enc16 l.rapidCeil ++ enc8 l.attemptCeil

/-! ### Feed class record (8 bytes) -/

/-- The feed class record at offset `n` of a payload. -/
def parseFeedClass (bs : List Byte) (n : Nat) : FeedClass :=
  { cap := u16At bs n, accel := byteAt bs (n + 2), retract := u16At bs (n + 3), energy := byteAt bs (n + 5)
    theta := u16At bs (n + 6) }

/-- The ranges of a feed class (R64). -/
def FeedClass.valid (c : FeedClass) : Bool :=
  within 1 400 c.cap && within 1 100 c.accel && within 1 400 c.retract && within 0 15 c.energy && within 0 2000 c.theta

def FeedClass.encode (c : FeedClass) : List Byte :=
  enc16 c.cap ++ enc8 c.accel ++ enc16 c.retract ++ enc8 c.energy ++ enc16 c.theta

/-- The feed cap lowered to F_CEIL (R14, R64). -/
def FeedClass.clamped (l : Limits) (c : FeedClass) : FeedClass := { c with cap := min c.cap l.feedCeil }

/-! ### Threading profile record (14 + 4·m bytes) -/

/-- The `m` search offset pairs from offset `n` on. -/
def parseOffsets (bs : List Byte) : Nat → Nat → List Point
  | _, 0 => []
  | n, m + 1 => ⟨s16At bs n, s16At bs (n + 2)⟩ :: parseOffsets bs (n + 4) m

/-- The profile record at offset `n` of a payload, with `m` pairs. -/
def parseProfile (bs : List Byte) (n m : Nat) : Profile :=
  { anneal := u16At bs n, trim := byteAt bs (n + 2), jetBase := byteAt bs (n + 3), jetStep := byteAt bs (n + 4)
    passTimeout := u16At bs (n + 5), attempts := byteAt bs (n + 7), tensionTimeout := u16At bs (n + 8)
    withdraw := u16At bs (n + 10), kerfAttempts := byteAt bs (n + 12), kerfJet := byteAt bs (n + 13)
    offsets := parseOffsets bs (n + 14) m }

/-- The ranges of the ten scalar fields (R103, R104). -/
def Profile.valid (p : Profile) : Bool :=
  within 0 2000 p.anneal && within 20 200 p.trim && within 0 7 p.jetBase && within 0 3 p.jetStep &&
    within 100 8000 p.passTimeout && within 1 15 p.attempts && within 100 2000 p.tensionTimeout &&
    within 50 2000 p.withdraw && within 0 7 p.kerfAttempts && within 0 7 p.kerfJet

/-- The four fields with a ceiling lowered to it (R14, R104). -/
def Profile.clamped (l : Limits) (p : Profile) : Profile :=
  { p with
    anneal := min p.anneal l.annealCeil, attempts := min p.attempts l.attemptCeil, jetBase := min p.jetBase l.jetCeil
    kerfJet := min p.kerfJet l.jetCeil }

/-- A search offset component brought to its fixed bound (R104). -/
def boundOffset (c : Int) : Int := max (-Config.searchBound) (min Config.searchBound c)

def Profile.bounded (p : Profile) : Profile :=
  { p with offsets := p.offsets.map fun o => ⟨boundOffset o.x, boundOffset o.y⟩ }

def Profile.encode (p : Profile) : List Byte :=
  enc16 p.anneal ++ enc8 p.trim ++ enc8 p.jetBase ++ enc8 p.jetStep ++ enc16 p.passTimeout ++ enc8 p.attempts ++
    enc16 p.tensionTimeout ++ enc16 p.withdraw ++ enc8 p.kerfAttempts ++ enc8 p.kerfJet ++
    (p.offsets.map fun o => encS16 o.x ++ encS16 o.y).flatten

/-! ### Job parameter record (16 bytes) -/

/-- The parameter record of a payload; none where a code or a value lies outside its field (R19, R180). -/
def parseJobParams (bs : List Byte) : Option JobParams :=
  match faultPolicyOf (byteAt bs 0), separationPolicyOf (byteAt bs 1), resumePolicyOf (byteAt bs 2) with
  | some fp, some sp, some rp =>
    let p : JobParams :=
      { faultPolicy := fp, separationPolicy := sp, resumePolicy := rp, retrace := u16At bs 3, drySpeed := u16At bs 5
        rapidSpeed := u16At bs 7, clampWait := u16At bs 9, breakLimit := byteAt bs 11, heartbeat := u16At bs 12
        pacing := u16At bs 14 }
    if within 1000 50000 p.retrace && within 1 2000 p.drySpeed && within 1 3000 p.rapidSpeed &&
        within 100 10000 p.clampWait && within 1 15 p.breakLimit && (p.heartbeat == 0 || within 100 5000 p.heartbeat) &&
        within 5 1000 p.pacing then
      some p
    else none
  | _, _, _ => none

/-- RT, dry speed and rapid speed lowered to their ceilings (R14, R19). -/
def JobParams.clamped (l : Limits) (p : JobParams) : JobParams :=
  { p with
    retrace := min p.retrace l.retraceCeil, drySpeed := min p.drySpeed l.rapidCeil
    rapidSpeed := min p.rapidSpeed l.rapidCeil }

def JobParams.encode (p : JobParams) : List Byte :=
  enc8 p.faultPolicy.code ++ enc8 p.separationPolicy.code ++ enc8 p.resumePolicy.code ++ enc16 p.retrace ++
    enc16 p.drySpeed ++ enc16 p.rapidSpeed ++ enc16 p.clampWait ++ enc8 p.breakLimit ++ enc16 p.heartbeat ++ enc16 p.pacing

/-! ### Cavity plan (17 bytes) -/

/-- The fields of a cavity plan whose codes and numbers lie within their ranges (R29, test 2). -/
structure Plan where
  id : CavityId
  tag : BitVec 32
  hole : Point
  profile : Fin 4
  method : Method
  passCount : Nat
  sepClass : ClassIx
deriving DecidableEq, Repr

/-- A cavity plan; none where test 2 of R29 fails. -/
def parsePlan (bs : List Byte) : Option Plan :=
  match indexOf 64 (byteAt bs 0), indexOf 4 (byteAt bs 13), methodOf (byteAt bs 14), indexOf 8 (byteAt bs 16) with
  | some id, some profile, some method, some cls =>
    if within 1 4 (byteAt bs 15) then
      some
        { id := id, tag := BitVec.ofNat 32 (u32At bs 1), hole := ⟨s32At bs 5, s32At bs 9⟩, profile := profile
          method := method, passCount := byteAt bs 15, sepClass := cls }
    else none
  | _, _, _, _ => none

/-! ### Segment record (13 bytes) -/

/-- A segment record as it stands in SEG_APPEND (chapter 11.5). -/
structure SegRecord where
  cavity : Nat
  chain : Nat
  seq : Nat
  dx : Int
  dy : Int
  flags : Byte
deriving DecidableEq, Repr

/-- The segment record at offset `n` of a payload. -/
def parseRecord (bs : List Byte) (n : Nat) : SegRecord :=
  { cavity := byteAt bs n, chain := byteAt bs (n + 1), seq := u16At bs (n + 2), dx := s32At bs (n + 4)
    dy := s32At bs (n + 8), flags := BitVec.ofNat 8 (byteAt bs (n + 12)) }

/-- The `m` segment records of a payload from offset `n` on, in their order. -/
def parseRecords (bs : List Byte) : Nat → Nat → List SegRecord
  | _, 0 => []
  | n, m + 1 => parseRecord bs n :: parseRecords bs (n + 13) m

def SegRecord.feedClass (r : SegRecord) : ClassIx := ⟨r.flags.toNat % 8, by omega⟩
def SegRecord.mode (r : SegRecord) : SegMode := if r.flags.getLsbD 3 then .dry else .cut
def SegRecord.entry (r : SegRecord) : Bool := r.flags.getLsbD 4
def SegRecord.hold (r : SegRecord) : Bool := r.flags.getLsbD 5
def SegRecord.close (r : SegRecord) : Bool := r.flags.getLsbD 6
/-- Bit 7 of the flags byte is unused (R180). -/
def SegRecord.unused (r : SegRecord) : Bool := r.flags.getLsbD 7

/-! ### Drive reply (9 bytes) -/

/-- A drive reply (chapter 11.6). -/
structure DriveReply where
  pos : Point
  xFault : Bool
  yFault : Bool
deriving DecidableEq, Repr

/-- The drive reply of a message of nine bytes, its positions limited to the coordinate range (R180); none for a message of
another length. -/
def parseDriveReply (msg : List Byte) : Option DriveReply :=
  if msg.length = 9 then
    some
      { pos := (Point.mk (s32At msg 0) (s32At msg 4)).limited, xFault := (msg.getD 8 0).getLsbD 0
        yFault := (msg.getD 8 0).getLsbD 1 }
  else none

/-! ### Status record (70 bytes) -/

/-- A point the recovery unit holds; zeros where it is absent (R181). -/
def encPathPoint : Option PathPoint → List Byte
  | some p => enc32 p.offset ++ encPoint p.pos
  | none => enc32 0 ++ enc32 0 ++ enc32 0

def State.statusFlags (s : State) : Nat :=
  flagBit s.threading.wireIn 0 + flagBit s.pins.interlock 1 + flagBit s.interlock.latched 2 +
    flagBit s.recovery.breakPoint.isSome 3 + flagBit s.recovery.resumePoint.isSome 4

/-- The state of the active cavity in byte form; 0xFF for none (chapter 11.5). -/
def State.activeStateByte (s : State) : Nat :=
  match s.activeCavity with
  | some c => c.state.code
  | none => 0xFF

/-- A job parameter as STATUS reports it: as stored, 0 while the job is IDLE (R17, R177). -/
def State.statusParam (s : State) (f : JobParams → Nat) : Nat :=
  match s.job.params with
  | some p => f p
  | none => 0

/-- The status record (R17, R177, chapter 11.5). -/
def State.statusRecord (s : State) : List Byte :=
  enc8 s.job.state.code ++ enc8 s.job.reasons.byte ++ enc8 (cavityByte s.job.active) ++ enc8 s.activeStateByte ++
    enc8 (chainByte s.reportedChain) ++ enc8 s.engine.state.code ++ enc8 s.threading.state.code ++
    enc8 s.recovery.stage.code ++ enc32 s.reportedP ++ enc32 (if s.engine.chain.isSome then s.engine.h else 0) ++
    enc32 (if s.engine.chain.isSome then s.engine.floor else 0) ++ encPoint s.engine.commanded ++ enc16 s.store.free ++
    enc8 s.retention.clamp.code ++ enc8 (cavityByte s.retention.clamp.owner) ++ enc8 s.maps.active.code ++
    enc16 s.log.length ++ enc8 s.statusFlags ++ encPathPoint s.recovery.breakPoint ++ encPathPoint s.recovery.resumePoint ++
    enc32 s.clock.toNat ++ enc16 (s.statusParam fun p => p.retrace) ++ enc16 (s.statusParam fun p => p.drySpeed) ++
    enc16 (s.statusParam fun p => p.rapidSpeed)

/-! ### Cavity report (116 bytes) -/

/-- The P and H of a pass (R178): the chain's present values while it is the active chain of the active cavity, else those of
the record. -/
def State.passPH (s : State) (i : CavityId) (k : PassIx) (p : PassRec) : Nat × Nat :=
  if s.job.active = some i ∧ s.engine.chain = some (.pass k) then (s.engine.p, s.engine.h) else (p.savedP, p.savedH)

/-- A pass record (22 bytes). -/
def State.passReport (s : State) (i : CavityId) (k : PassIx) (p : PassRec) : List Byte :=
  enc8 p.state.code ++ enc8 (flagBit p.chain.closed 0 + flagBit p.chain.holdOffset.isSome 1) ++ enc32 p.chain.appended ++
    enc32 (p.chain.holdOffset.getD 0) ++ enc32 (s.passPH i k p).1 ++ enc32 (s.passPH i k p).2 ++ enc32 p.chain.retired

/-- The cavity report (R178, chapter 11.5). -/
def State.cavityReport (s : State) (i : CavityId) (c : Cavity) : List Byte :=
  enc8 i.val ++ enc32 c.tag.toNat ++ encPoint c.hole ++ enc8 c.profile.val ++ enc8 c.planned.code ++
    enc8 ((c.effective.map Method.code).getD 0xFF) ++ enc8 c.passCount ++ enc8 c.sepClass.val ++ enc8 c.state.code ++
    enc8 c.currentPass.val ++ enc8 c.breakCount ++ enc8 c.attemptsUsed ++ enc8 ((c.fault.map FaultReason.code).getD 0xFF) ++
    enc32 (c.bridgeLength.getD 0xFFFFFFFF) ++ enc8 (flagBit c.sepSelected 0) ++ s.passReport i 0 c.passes[(0 : PassIx)] ++
    s.passReport i 1 c.passes[(1 : PassIx)] ++ s.passReport i 2 c.passes[(2 : PassIx)] ++
    s.passReport i 3 c.passes[(3 : PassIx)]

/-! ### Log record (14 bytes) -/

def LogRecord.encode (r : LogRecord) : List Byte :=
  enc32 r.content.clock.toNat ++ enc8 r.code.val ++ enc8 (cavityByte r.content.cavity) ++
    enc8 (chainByte r.content.chain) ++ enc8 (flagBit r.discontinuity 0) ++ enc32 r.content.offset ++ enc16 r.content.detail

/-! ### Set-point (9 bytes) -/

def SetPoint.encode (p : SetPoint) : List Byte := encPoint p.pos ++ enc8 (flagBit p.track 0)

end Sys2Proof.Machine
end

