-- ==== Sys2Proof/WellFormed.lean ====
section
/-! DEFINITION. Which commands can come about at all: the checks on a command's operands. -/

namespace Sys2Proof

/-- A payload a frame can carry: LENGTH is at most 250 (chapter 1.1, R2). -/
def payloadFits (payload : List Byte) : Bool := payload.length ≤ Config.maxPayload

/-- A KIND of the catalogue of requests (chapter 11.2). -/
def isRequestKind (kind : Byte) : Bool := Config.requestKinds.contains kind

/-- The operand check of a command: a request's payload fits its frame, an UNKNOWN_KIND request's KIND is not in the
catalogue (R4), the bytes that complete a frame are 1 to 256 (chapter 1.1); every other command has operands of their types alone. -/
def Instr.wellFormed (i : Instr) : Bool :=
  match i with
  | .unknownKindRequest kind _ payload => payloadFits payload && !isRequestKind kind
  | .frameReceive bytes => !bytes.isEmpty && bytes.length ≤ Config.maxPayload + 6
  | i => match i.request with
    | some (_, _, payload) => payloadFits payload
    | none => true

end Sys2Proof
end

