-- ==== Sys2Proof/Machine/LinkPort.lean ====
section
/-! DEFINITION. The link port (chapter 1): power and reset, the receive framer and the frame check, the transmitter's end, the
frame of every request's decision, and the requests that the link port owns. -/

namespace Sys2Proof.Machine

/-! ### Power and reset (R15, R16) -/

/-- The part begins operation: every block in its power-on state, the pins sampled, the silence timer running (R16, R63). -/
def State.beginOperation (s : State) (pins : Pins) (rate : Nat) : State :=
  { State.powerOnState s.pending ⟨true, true⟩ pins rate with
    genWatch := { timer := some Config.silenceTime, latch := false } }

/-- The part is held in its power-on state while RESET_N is low (R16). -/
def State.held (s : State) : State :=
  State.powerOnState s.pending { s.power with resetN := false } s.pins s.link.rate

/-- POWER_ON: power becomes valid; with RESET_N high the straps and pins are sampled and operation begins, with RESET_N low
the part is held (R16). -/
def execPowerOn (resetN : Bool) (pins : Pins) (s : State) : Host.Outcome State Fault Refusal :=
  .next (if resetN then s.beginOperation pins (strapRate pins) else { s.held with power := ⟨true, false⟩ })

/-- RESET_N_ASSERT (R16). -/
def execResetNAssert (s : State) : Host.Outcome State Fault Refusal := .next s.held

/-- RESET_N_RELEASE: with power valid the straps and pins are sampled and operation begins (R16). -/
def execResetNRelease (pins : Pins) (s : State) : Host.Outcome State Fault Refusal :=
  .next
    (if s.power.resetN then s
     else if s.power.valid then s.beginOperation pins (strapRate pins)
     else s.updPower fun p => { p with resetN := true })

/-- What a part in operation does at a command; a part without power or with RESET_N low does nothing (R16). -/
def State.whenOperating (s : State) (f : State → State) : Host.Outcome State Fault Refusal :=
  .next (if s.operating then f s else s)

/-! ### The receive framer and the frame check (R2, R3, R4) -/

/-- A frame that matches its check is valid: it restarts the heartbeat timer and joins the request list, or is lost to an
overrun (R3, R4). -/
def State.validFrame (s : State) (f : Frame) : State :=
  s.restartHeartbeat.updLink fun l =>
    if l.requests.length < Config.requestSlots then { l with requests := l.requests ++ [f] } else l

/-- The bytes of a complete frame that its CRC covers, and its CRC (R3): `got` is LENGTH, KIND, TAG, payload, CRC. -/
def coveredBytes (got : List Byte) : List Byte := got.take (byteAt got 0 + 3)

def receivedCrc (got : List Byte) : BitVec 16 := BitVec.ofNat 16 (u16At got (byteAt got 0 + 3))

/-- The frame that gathered bytes hold. -/
def frameOf (got : List Byte) : Frame :=
  { kind := got.getD 1 0, tag := got.getD 2 0, payload := (got.drop 3).take (byteAt got 0) }

/-- The frame check (R3). -/
def State.checkFrame (s : State) (got : List Byte) : State :=
  if crc16 (coveredBytes got) = receivedCrc got then s.validFrame (frameOf got) else s

/-- The framer returns to HUNTING with its gap timer cancelled (R2). -/
def Link.hunt (l : Link) : Link := { l with framer := .hunting, gapTimer := none }

/-- The framer collects, and its gap timer starts (R2; notes/assumptions/5.md). -/
def Link.collect (l : Link) (got : List Byte) : Link :=
  { l with framer := .collecting got, gapTimer := some Config.gapTime }

/-- One received byte (R2); bytes are lost while a RESET waits for its reply to be sent (R15). -/
def State.receiveByte (s : State) (b : Byte) : State :=
  if s.link.resetting then s
  else
    match s.link.framer with
    | .hunting => if b = Config.sync then s.updLink fun l => l.collect [] else s
    | .collecting got =>
      let g := got ++ [b]
      if Config.maxPayload < byteAt g 0 then s.updLink Link.hunt
      else if g.length = byteAt g 0 + 5 then (s.updLink Link.hunt).checkFrame g
      else s.updLink fun l => l.collect g

/-- RECEIVED_BYTE: a byte with a framing error is taken like a good one (R1, R2). -/
def execReceivedByte (data : Byte) (_framingError : Bool) (s : State) : Host.Outcome State Fault Refusal :=
  s.whenOperating fun s => s.receiveByte data

/-- FRAME_RECEIVE: the bytes that complete a frame, taken one after another (R2, R3; notes/assumptions/4.md). -/
def execFrameReceive (bytes : List Byte) (s : State) : Host.Outcome State Fault Refusal :=
  s.whenOperating fun s => bytes.foldl State.receiveByte s

/-- INTER_BYTE_GAP_EXPIRY (R2). -/
def execInterByteGapExpiry (s : State) : Host.Outcome State Fault Refusal :=
  s.whenOperating fun s => if s.link.gapTimer.isSome then s.updLink Link.hunt else s

/-! ### The transmitter (R7, R15) -/

/-- The frame is the reply that a decided RESET waits for (R15). -/
def Link.isResetReply (l : Link) (f : Frame) : Bool := l.resetting && f.kind == 0x82#8 && f.payload == [0x00#8]

/-- FRAME_TRANSMIT_END: the next frame is chosen (R7); after the reply to RESET the part enters its power-on state with the
strap pins not sampled again (R15). -/
def execFrameTransmitEnd (s : State) : Host.Outcome State Fault Refusal :=
  s.whenOperating fun s =>
    match s.link.sending with
    | some f =>
      if s.link.isResetReply f then s.beginOperation s.pins s.link.rate
      else (s.updLink fun l => { l with sending := none }).startTransmit
    | none => s

/-! ### The decision of a request (R4, R6) -/

/-- What an owner decides: the state it leaves, the result code, the data after it (R5, R6). -/
structure Answer where
  state : State
  result : Result
  data : List Byte

/-- A refusal: the owner's state as it was, and no data (R4, R6). -/
def State.refuse (s : State) (r : Result) : Answer := ⟨s, r, []⟩

/-- An acceptance without data. -/
def State.accept (s : State) : Answer := ⟨s, .ok, []⟩

/-- The request is the oldest of the list and the reply list has room: the port decides it now (R4). -/
def State.decides (s : State) (kind tag : Byte) (payload : List Byte) : Bool :=
  s.operating && !s.link.resetting && decide (s.link.requests.head? = some ⟨kind, tag, payload⟩) &&
    decide (s.link.replies.length < Config.replySlots)

/-- The decided request leaves the list (R4). -/
def State.popRequest (s : State) : State := s.updLink fun l => { l with requests := l.requests.tail }

/-- The reply frame: the request's KIND with the top bit set, its TAG, the result code, the data (R6). -/
def replyFrame (kind tag : Byte) (r : Result) (data : List Byte) : Frame :=
  { kind := kind ||| 0x80#8, tag := tag, payload := r.byte :: data }

/-- The reply joins the reply list (R4, R6). -/
def Answer.reply (a : Answer) (kind tag : Byte) : State :=
  a.state.updLink fun l => { l with replies := l.replies ++ [replyFrame kind tag a.result a.data] }

/-- The state after a request is decided by its owner, whose answer is given the state without the request (R4). -/
def State.decided (s : State) (kind tag : Byte) (owner : State → Answer) : State :=
  ((owner s.popRequest).reply kind tag).finish false

/-- The length check and then the owner's decision of a request (R4); a request that the port does not decide now has no
effect (notes/assumptions/3.md). -/
def State.request (s : State) (kind tag : Byte) (payload : List Byte) (permitted : Bool) (owner : State → Answer) :
    Host.Outcome State Fault Refusal :=
  .next
    (if s.decides kind tag payload then
      s.decided kind tag (fun s => if permitted then owner s else s.refuse .badLength)
    else s)

/-- UNKNOWN_KIND_REQUEST: a KIND outside the catalogue (R4, R6). -/
def execUnknownKindRequest (kind tag : Byte) (payload : List Byte) (s : State) : Host.Outcome State Fault Refusal :=
  .next
    (if isRequestKind kind then s
     else if s.decides kind tag payload then s.decided kind tag (fun s => s.refuse .unknownKind) else s)

/-! ### STATUS, RESET, limits (R12 to R15, R17) -/

/-- STATUS (R17, R177). -/
def execStatus (tag : Byte) (payload : List Byte) (s : State) : Host.Outcome State Fault Refusal :=
  s.request 0x01#8 tag payload (payload.length == 0) fun s => ⟨s, .ok, s.statusRecord⟩

/-- RESET: the requests that wait are discarded, and the port decides none until the reply has been sent (R15). -/
def execReset (tag : Byte) (payload : List Byte) (s : State) : Host.Outcome State Fault Refusal :=
  s.request 0x02#8 tag payload (payload.length == 0) fun s =>
    (s.updLink fun l => { l with requests := [], resetting := true }).accept

/-- Every stored value bounded by a ceiling is lowered to it where it is greater (R14). -/
def State.reclamp (s : State) (l : Limits) : State :=
  ((s.updFeed (mapTable (FeedClass.clamped l))).updProfiles (mapTable (Profile.clamped l))).updJob fun j =>
    { j with params := j.params.map (JobParams.clamped l) }

/-- LIMITS_SET: the authority at the decision, the field ranges, then the record and the re-clamping (R12, R13, R14). -/
def execLimitsSet (service : Bool) (tag : Byte) (payload : List Byte) (s : State) : Host.Outcome State Fault Refusal :=
  s.request 0x10#8 tag payload (payload.length == 10) fun s =>
    let s1 := s.updPins fun p => { p with serviceEn := service }
    let l := parseLimits payload
    if s.limits.isSome && !service then s1.refuse .authority
    else if !l.valid then s1.refuse .badField
    else ((s1.updLimits fun _ => some l).reclamp l).accept

/-- LIMITS_GET (R13). -/
def execLimitsGet (tag : Byte) (payload : List Byte) (s : State) : Host.Outcome State Fault Refusal :=
  s.request 0x11#8 tag payload (payload.length == 0) fun s =>
    match s.limits with
    | some l => ⟨s, .ok, l.encode⟩
    | none => s.refuse .notConfigured

/-! ### Heartbeat (R11) -/

/-- HEARTBEAT_EXPIRY: LINK_SILENT is raised (R11). -/
def execHeartbeatExpiry (s : State) : Host.Outcome State Fault Refusal :=
  s.whenOperating fun s =>
    if s.link.heartbeat.isSome then (s.stopHeartbeat.raise Event.linkSilent 0).finish false else s

end Sys2Proof.Machine
end

