-- ==== Sys2Proof/Machine/ConfigRequests.lean ====
section
/-! DEFINITION. The requests that write and read the feed classes, the override (chapter 4.2) and the threading profiles
(chapter 6.1). -/

namespace Sys2Proof.Machine

/-- A stored record against what was sent: OK_CLAMPED when the two differ (R6). -/
def clampResult (same : Bool) : Result := if same then .ok else .okClamped

/-- FEED_CLASS_SET (R64). -/
def execFeedClassSet (tag : Byte) (payload : List Byte) (s : State) : Host.Outcome State Fault Refusal :=
  s.request 0x18#8 tag payload (payload.length == 9) fun s =>
    match indexOf 8 (byteAt payload 0) with
    | some i =>
      let sent := parseFeedClass payload 1
      if sent.valid then
        let stored := match s.limits with
          | some l => sent.clamped l
          | none => sent
        ⟨s.updFeed fun v => v.set i.val stored, clampResult (stored == sent), []⟩
      else s.refuse .badField
    | none => s.refuse .badField

/-- FEED_CLASS_GET (R64). -/
def execFeedClassGet (tag : Byte) (payload : List Byte) (s : State) : Host.Outcome State Fault Refusal :=
  s.request 0x19#8 tag payload (payload.length == 1) fun s =>
    match indexOf 8 (byteAt payload 0) with
    | some i => ⟨s, .ok, (s.feed[i]).encode⟩
    | none => s.refuse .badField

/-- OVERRIDE_SET (R65). -/
def execOverrideSet (tag : Byte) (payload : List Byte) (s : State) : Host.Outcome State Fault Refusal :=
  s.request 0x1C#8 tag payload (payload.length == 1) fun s =>
    if byteAt payload 0 ≤ 150 then ⟨s.updFeedOverride fun _ => byteAt payload 0, .ok, enc8 (byteAt payload 0)⟩
    else s.refuse .badField

/-- The lengths of THREAD_PROFILE_SET: 15 + 4·m for m = 1 to 9 (R179). -/
def profileLength (n : Nat) : Bool := within 19 51 n && (n - 15) % 4 == 0

/-- THREAD_PROFILE_SET (R104). -/
def execThreadProfileSet (tag : Byte) (payload : List Byte) (s : State) : Host.Outcome State Fault Refusal :=
  s.request 0x1A#8 tag payload (profileLength payload.length) fun s =>
    match indexOf 4 (byteAt payload 0) with
    | some i =>
      let sent := parseProfile payload 1 ((payload.length - 15) / 4)
      if sent.valid then
        let stored := match s.limits with
          | some l => sent.bounded.clamped l
          | none => sent.bounded
        ⟨s.updProfiles fun v => v.set i.val stored, clampResult (stored == sent), []⟩
      else s.refuse .badField
    | none => s.refuse .badField

/-- THREAD_PROFILE_GET (R104). -/
def execThreadProfileGet (tag : Byte) (payload : List Byte) (s : State) : Host.Outcome State Fault Refusal :=
  s.request 0x1B#8 tag payload (payload.length == 1) fun s =>
    match indexOf 4 (byteAt payload 0) with
    | some i => ⟨s, .ok, (s.profiles[i]).encode⟩
    | none => s.refuse .badField

end Sys2Proof.Machine
end

