-- ==== Sys2Proof/Machine/JobRequests.lean ====
section
/-! DEFINITION. The requests of the job table (chapter 2): the job's life, planning and run order, abandonment, separation, and
SLUG_RELEASE of the retention unit (R149). -/

namespace Sys2Proof.Machine

/-! ### The job (R19 to R24) -/

/-- The parameters that JOB_OPEN carries: the defaults for an empty payload (R19). -/
def openParams (payload : List Byte) : Option JobParams :=
  if payload.length = 0 then some JobParams.default else parseJobParams payload

/-- The job enters LOADING with stored parameters, empty tables, and the pacing timer running (R19, R61). -/
def State.openJob (s : State) (p : JobParams) : State :=
  ((((s.updJob fun _ => { state := .loading, params := some p, reasons := Reasons.none, active := none }).updCavities fun _ =>
    Vector.replicate 64 none).updRunOrder fun _ => []).updSepQueue fun _ => []).updStore fun t =>
      { t with pacing := some p.pacing }

/-- JOB_OPEN (R19). -/
def execJobOpen (tag : Byte) (payload : List Byte) (s : State) : Host.Outcome State Fault Refusal :=
  s.request 0x20#8 tag payload (payload.length == 0 || payload.length == 16) fun s =>
    match s.job.state, s.limits with
    | .idle, some l =>
      match openParams payload with
      | some sent => ⟨s.openJob (sent.clamped l), clampResult (sent.clamped l == sent), (sent.clamped l).encode⟩
      | none => s.refuse .badField
    | .idle, none => s.refuse .notConfigured
    | _, _ => s.refuse .wrongState

/-- The interlock stands in the way of running: its input is open, or its flag is latched (R20, R33). -/
def State.interlockBars (s : State) : Bool := !s.pins.interlock || s.interlock.latched

/-- The job enters RUNNING with no pause reason, and the heartbeat timer starts (R10, R20, R33). -/
def State.startJob (s : State) : State :=
  (s.updJob fun j => { j with state := .running, reasons := Reasons.none }).startHeartbeat

/-- JOB_START (R20); the selection follows as the command closes. -/
def execJobStart (tag : Byte) (payload : List Byte) (s : State) : Host.Outcome State Fault Refusal :=
  s.request 0x21#8 tag payload (payload.length == 0) fun s =>
    if s.job.state ≠ .loading then s.refuse .wrongState
    else if s.countIn .planned = 0 then s.refuse .noCavity
    else if s.interlockBars then s.refuse .interlock
    else s.startJob.accept

/-- JOB_PAUSE (R21). -/
def execJobPause (tag : Byte) (payload : List Byte) (s : State) : Host.Outcome State Fault Refusal :=
  s.request 0x22#8 tag payload (payload.length == 0) fun s =>
    match s.job.state with
    | .running | .paused => (s.addReason Reasons.addHost).accept
    | _ => s.refuse .wrongState

/-- What JOB_RESUME removes (R22). -/
def Reasons.resumed (r : Reasons) : Reasons := { r with host := false, event := false, linkSilent := false }

/-- JOB_RESUME (R22). -/
def execJobResume (tag : Byte) (payload : List Byte) (s : State) : Host.Outcome State Fault Refusal :=
  s.request 0x23#8 tag payload (payload.length == 0) fun s =>
    match s.job.state with
    | .running => s.accept
    | .paused => if s.job.reasons.interlock then s.refuse .interlock else (s.removeReasons Reasons.resumed).accept
    | _ => s.refuse .wrongState

/-- JOB_ABORT (R23). -/
def execJobAbort (tag : Byte) (payload : List Byte) (s : State) : Host.Outcome State Fault Refusal :=
  s.request 0x24#8 tag payload (payload.length == 0) fun s =>
    match s.job.state with
    | .running | .paused => (s.haltJob .abort).accept
    | _ => s.refuse .wrongState

/-- FAILED returns to IDLE at JOB_CLEAR; WIRE_IN stays (R105). -/
def Threading.cleared (t : Threading) : Threading := if t.state = .failed then { t with state := .idle } else t

/-- The job is cleared (R24, R61, R66, R105). -/
def State.clearJob (s : State) : State :=
  ((((((s.updJob fun _ => { state := .idle, params := none, reasons := Reasons.none, active := none }).updCavities fun _ =>
    Vector.replicate 64 none).updRunOrder fun _ => []).updSepQueue fun _ => []).updStore fun t =>
      { t with free := Config.poolSlots, reroute := none, separation := none, pacing := none }).servoReset).updThreading
        Threading.cleared

/-- JOB_CLEAR (R24). -/
def execJobClear (tag : Byte) (payload : List Byte) (s : State) : Host.Outcome State Fault Refusal :=
  s.request 0x25#8 tag payload (payload.length == 0) fun s =>
    match s.job.state with
    | .idle | .running | .paused => s.refuse .wrongState
    | _ => if s.retention.clamp ≠ .free then s.refuse .clampHeld else s.clearJob.accept

/-! ### Planning and the run order (R25, R29, R30) -/

/-- The record that CAVITY_PLAN creates, its four chains numbered from `serial` on (R25). -/
def Plan.record (p : Plan) (serial : Nat) : Cavity :=
  { tag := p.tag, hole := p.hole, profile := p.profile, planned := p.method, effective := none, passCount := p.passCount
    sepClass := p.sepClass, state := .planned, currentPass := 0
    passes := #v[PassRec.new serial, PassRec.new (serial + 1), PassRec.new (serial + 2), PassRec.new (serial + 3)]
    breakCount := 0, attemptsUsed := 0, fault := none, bridgeLength := none, sepSelected := false, leadIn := [], bridge := [] }

/-- The records of the cavity table. -/
def State.recordCount (s : State) : Nat := (s.cavities.toList.filter Option.isSome).length

/-- The record joins the table and its id the end of the run order (R29). -/
def State.plan (s : State) (p : Plan) : State :=
  ((s.updCavities fun t => t.set p.id.val (some (p.record s.store.nextSerial))).updRunOrder fun q => q ++ [p.id]).updStore
    fun t => { t with nextSerial := t.nextSerial + 4 }

/-- CAVITY_PLAN (R29). -/
def execCavityPlan (tag : Byte) (payload : List Byte) (s : State) : Host.Outcome State Fault Refusal :=
  s.request 0x28#8 tag payload (payload.length == 17) fun s =>
    match s.job.state with
    | .loading | .running | .paused =>
      match parsePlan payload with
      | some p =>
        if !p.hole.inRange then s.refuse .geometry
        else if s.recordCount = 64 then s.refuse .tableFull
        else if (s.cavity p.id).isSome then s.refuse .idInUse
        else (s.plan p).accept
      | none => s.refuse .badField
    | _ => s.refuse .wrongState

/-- An id moved to an index among the entries that remain (R30). -/
def moveTo (i : CavityId) (n : Nat) (order : List CavityId) : List CavityId :=
  let rest := order.filter fun j => decide (j ≠ i)
  rest.take n ++ i :: rest.drop n

/-- CAVITY_MOVE (R30). -/
def execCavityMove (tag : Byte) (payload : List Byte) (s : State) : Host.Outcome State Fault Refusal :=
  s.request 0x29#8 tag payload (payload.length == 2) fun s =>
    match indexOf 64 (byteAt payload 0) with
    | some i =>
      match s.cavity i with
      | some c =>
        if c.state = .planned then (s.updRunOrder (moveTo i (byteAt payload 1))).accept else s.refuse .wrongState
      | none => s.refuse .noCavity
    | none => s.refuse .noCavity

/-! ### Abandonment (R31, R32) -/

/-- The active cavity's work ends (R32). -/
def State.abandonActive (s : State) (i : CavityId) : State :=
  (((s.faultCavity i .hostAbandon).engineStop).endRecovery).threadingAbandon i

/-- CAVITY_ABANDON (R31, R32). -/
def execCavityAbandon (tag : Byte) (payload : List Byte) (s : State) : Host.Outcome State Fault Refusal :=
  s.request 0x2A#8 tag payload (payload.length == 1) fun s =>
    match indexOf 64 (byteAt payload 0) with
    | some i =>
      match s.cavity i with
      | some c =>
        match c.state with
        | .planned => (s.skipCavity i).accept
        | .retained => (s.faultCavity i .hostAbandon).accept
        | .threading | .cutting | .breakRecovery | .separating => (s.abandonActive i).accept
        | .done | .faulted | .skipped => s.refuse .wrongState
      | none => s.refuse .noCavity
    | none => s.refuse .noCavity

/-- CAVITY_QUERY (R178). -/
def execCavityQuery (tag : Byte) (payload : List Byte) (s : State) : Host.Outcome State Fault Refusal :=
  s.request 0x2B#8 tag payload (payload.length == 1) fun s =>
    match indexOf 64 (byteAt payload 0) with
    | some i =>
      match s.cavity i with
      | some c => ⟨s, .ok, s.cavityReport i c⟩
      | none => s.refuse .noCavity
    | none => s.refuse .badField

/-! ### Separation and slug release (R33, R149) -/

/-- The job takes SEPARATE (R33, test 1). -/
def JobState.separates : JobState → Bool
  | .running | .paused | .complete => true
  | .idle | .loading | .halted => false

/-- SEPARATE for a RETAINED cavity: it joins the queue once, and a COMPLETE job returns to RUNNING (R33). -/
def State.separate (s : State) (i : CavityId) : Answer :=
  if s.job.state = .complete ∧ s.interlockBars = true then s.refuse .interlock
  else if s.sepQueue.contains i then s.accept
  else
    let s1 := s.updSepQueue fun q => q ++ [i]
    if s.job.state = .complete then s1.startJob.accept else s1.accept

/-- SEPARATE (R33). -/
def execSeparate (tag : Byte) (payload : List Byte) (s : State) : Host.Outcome State Fault Refusal :=
  s.request 0x38#8 tag payload (payload.length == 1) fun s =>
    if !s.job.state.separates then s.refuse .wrongState
    else
      match indexOf 64 (byteAt payload 0) with
      | some i =>
        match s.cavity i with
        | some c => if c.state = .retained then s.separate i else s.refuse .wrongState
        | none => s.refuse .noCavity
      | none => s.refuse .noCavity

/-- SLUG_RELEASE (R149). -/
def execSlugRelease (tag : Byte) (payload : List Byte) (s : State) : Host.Outcome State Fault Refusal :=
  s.request 0x39#8 tag payload (payload.length == 1) fun s =>
    match indexOf 64 (byteAt payload 0) with
    | some i =>
      match s.cavity i with
      | some _ =>
        if s.retention.clamp = .held i then
          (s.updRetention fun r => { r with clamp := .free, clampReq := false }).accept
        else s.refuse .wrongState
      | none => s.refuse .noCavity
    | none => s.refuse .badField

end Sys2Proof.Machine
end

