-- ==== Sys2Proof/Machine/SegRequests.lean ====
section
/-! DEFINITION. SEG_APPEND and SEG_REVISE (chapter 3.3, 3.4): the checks of a record in their order (R44 to R46), its acceptance
(R47), and what the engine, the retention unit and the recovery unit do with it (R57, R58, R89, R93, R100, R131, R133). -/

namespace Sys2Proof.Machine

/-! ### The chain a record names (R39, R44) -/

/-- A chain code of a request: pass 0 to 3, or REROUTE (R44, R180). -/
def chainOfCode (n : Nat) : Option ChainRef :=
  match indexOf 4 n with
  | some k => some (.pass k)
  | none => if n = 4 then some .reroute else none

/-- A pass lies below the cavity's pass count; REROUTE is no pass (R44). -/
def Cavity.hasChain (c : Cavity) : ChainRef → Bool
  | .pass k => k.val < c.passCount
  | _ => true

/-- The reroute chain of a cavity (R39). -/
def State.rerouteOf (s : State) (i : CavityId) : Option Chain :=
  match s.store.reroute with
  | some o => if o.owner = i then some o.chain else none
  | none => none

/-- The chain a record is checked against; a reroute chain not yet made stands at its beginning (R39). -/
def State.targetChain (s : State) (i : CavityId) (c : Cavity) : ChainRef → Chain
  | .pass k => (c.passes[k]).chain
  | _ => (s.rerouteOf i).getD (Chain.new s.store.nextSerial)

/-- The recovery unit's stage for a cavity is AWAIT_REROUTE or REROUTE (R44). -/
def State.takesReroute (s : State) (i : CavityId) : Bool :=
  decide (s.job.active = some i) && (decide (s.recovery.stage = .awaitReroute) || decide (s.recovery.stage = .reroute))

/-- The pass before a pass is closed; nothing comes before pass 0 (R44). -/
def Cavity.previousClosed (c : Cavity) : ChainRef → Bool
  | .pass k => if h : 0 < k.val then (c.passes[(⟨k.val - 1, by omega⟩ : PassIx)]).chain.closed else true
  | _ => true

/-- The start point that a record appended now takes (R41, R42). -/
def appendPoint (c : Cavity) (r : ChainRef) (ch : Chain) : Point :=
  if ch.appended = 0 then c.origin r else ch.endPoint

/-- A record is discarded on arrival: its skim pass is AT_HOLD (R58). -/
def Cavity.discards (c : Cavity) : ChainRef → Bool
  | .pass k => decide (k ≠ 0) && decide ((c.passes[k]).state = .atHold)
  | _ => false

/-! ### The checks (R44, R45, R46) -/

/-- The first refusal of a list of checks, each with its refusal. -/
def firstFailing : List (Bool × Result) → Option Result
  | [] => none
  | (ok, r) :: rest => if ok then firstFailing rest else some r

/-- The checks that place a record in its chain, after the cavity and the chain code (R44). -/
def State.placeChecks (s : State) (i : CavityId) (c : Cavity) (ref : ChainRef) (ch : Chain) (r : SegRecord) :
    List (Bool × Result) :=
  [ (c.hasChain ref, .badField),
    (decide (ref ≠ .reroute) || s.takesReroute i, .wrongState),
    (c.previousClosed ref, .passOrder),
    (!ch.closed, .passClosed),
    (r.seq == ch.nextSeq, .outOfOrder),
    (decide (r.seq < 65535) || r.close, .badField) ]

/-- A delta within its range, and not both zero (R45). -/
def SegRecord.deltasValid (r : SegRecord) : Bool :=
  decide (-Config.deltaMax ≤ r.dx) && decide (r.dx ≤ Config.deltaMax) && decide (-Config.deltaMax ≤ r.dy) &&
    decide (r.dy ≤ Config.deltaMax) && !(decide (r.dx = 0) && decide (r.dy = 0))

/-- The end point of a record appended at a point. -/
def SegRecord.stopFrom (r : SegRecord) (p : Point) : Point := p.add ⟨r.dx, r.dy⟩

/-- ENTRY has been seen in the chain, this record's own flag included. -/
def entrySeen (ch : Chain) (r : SegRecord) : Bool := ch.entrySeq.isSome || r.entry

/-- HOLD has been seen in the chain, this record's own flag included. -/
def holdSeen (ch : Chain) (r : SegRecord) : Bool := ch.holdOffset.isSome || r.hold

/-- The checks of geometry and of the ENTRY and HOLD flags (R45). -/
def geometryChecks (c : Cavity) (ref : ChainRef) (ch : Chain) (r : SegRecord) : List (Bool × Result) :=
  [ (r.deltasValid && (r.stopFrom (appendPoint c ref ch)).inRange &&
      decide (ch.endOffset + lengthOf r.dx r.dy ≤ Config.offsetMax), .geometry),
    (decide (ref ≠ .reroute) || decide (r.mode = .dry), .badField),
    (!r.entry || (decide (ref = .pass 0) && ch.entrySeq.isNone), .holdMisplaced),
    (decide (ref ≠ .pass 0) || entrySeen ch r || decide (ch.leadInCount < Config.maxLeadIn), .leadInTooLong),
    (!r.hold || (decide (ref ≠ .reroute) && decide (c.planned ≠ .none) && ch.holdOffset.isNone &&
      (decide (ref ≠ .pass 0) || entrySeen ch r)), .holdMisplaced),
    (decide (ref ≠ .pass 0) || decide (c.planned = .none) || !holdSeen ch r || decide (ch.bridgeCount < Config.maxBridge),
      .bridgeTooLong) ]

/-- A point is the one the recovery unit holds as the resume point (R46). -/
def State.endsAtResume (s : State) (p : Point) : Bool :=
  match s.recovery.resumePoint with
  | some rp => decide (rp.pos = p)
  | none => false

/-- The checks of the CLOSE flag and of the pool (R46). -/
def State.closeChecks (s : State) (c : Cavity) (ref : ChainRef) (ch : Chain) (r : SegRecord) : List (Bool × Result) :=
  [ (!r.close || decide (ref ≠ .pass 0) || entrySeen ch r, .holdMisplaced),
    (!r.close || decide (ref = .reroute) || decide (c.planned = .none) || holdSeen ch r, .noHold),
    (!r.close || decide (ref ≠ .reroute) || s.endsAtResume (r.stopFrom (appendPoint c ref ch)), .rerouteMismatch),
    (decide (0 < s.store.free) || c.discards ref, .poolFull) ]

/-- A record that passed the first two checks of R44, with what they found. -/
structure Placed where
  id : CavityId
  cavity : Cavity
  ref : ChainRef

/-- The unused flag bit (R180), the cavity, and the chain code (R44). -/
def State.place (s : State) (r : SegRecord) : Except Result Placed :=
  if r.unused then .error .badField
  else
    match indexOf 64 r.cavity with
    | some i =>
      match s.cavity i with
      | some c =>
        if c.state.isFinal then .error .noCavity
        else
          match chainOfCode r.chain with
          | some ref => .ok ⟨i, c, ref⟩
          | none => .error .badField
      | none => .error .noCavity
    | none => .error .noCavity

/-- Every further check of a placed record, in order; none when it passes them all (R44, R45, R46). -/
def State.checkPlaced (s : State) (p : Placed) (r : SegRecord) : Option Result :=
  let ch := s.targetChain p.id p.cavity p.ref
  firstFailing
    (s.placeChecks p.id p.cavity p.ref ch r ++ geometryChecks p.cavity p.ref ch r ++ s.closeChecks p.cavity p.ref ch r)

/-! ### Acceptance (R41, R47) -/

/-- The segment that a record becomes (R41). -/
def SegRecord.segment (r : SegRecord) (ch : Chain) (start : Point) : Segment :=
  { seq := r.seq, dx := r.dx, dy := r.dy, feedClass := r.feedClass, mode := r.mode, entry := r.entry, hold := r.hold
    close := r.close, s0 := ch.endOffset, len := lengthOf r.dx r.dy, start := start, stop := r.stopFrom start
    state := .queued }

/-- The chain's book-keeping after a record, without its segment (R47, steps 3 and 4). -/
def Chain.counted (ch : Chain) (ref : ChainRef) (r : SegRecord) (g : Segment) : Chain :=
  { ch with
    appended := ch.appended + 1
    nextSeq := ch.nextSeq + 1
    closed := ch.closed || r.close
    holdOffset := if r.hold then some g.s0 else ch.holdOffset
    holdPoint := if r.hold then g.start else ch.holdPoint
    endOffset := g.endOffset
    endPoint := g.stop
    entrySeq := if r.entry then some r.seq else ch.entrySeq
    leadInCount := if ref = .pass 0 ∧ entrySeen ch r = false then ch.leadInCount + 1 else ch.leadInCount
    bridgeCount := if ref = .pass 0 ∧ holdSeen ch r = true then ch.bridgeCount + 1 else ch.bridgeCount }

/-- The segment enters its chain, taking a slot (R47, steps 1 to 4). -/
def Chain.append (ch : Chain) (ref : ChainRef) (r : SegRecord) (g : Segment) : Chain :=
  { ch.counted ref r g with segs := ch.segs ++ [g] }

def State.takeSlot (s : State) : State := s.updStore fun t => { t with free := t.free - 1 }

/-- The named chain of cavity `i` replaced; the reroute chain comes into being with its first segment (R39). There is one reroute
chain: the slots of another cavity's, which no run leaves behind, return to the pool (notes/assumptions/32.md). -/
def State.putChain (s : State) (i : CavityId) (ref : ChainRef) (ch : Chain) : State :=
  match ref with
  | .pass k => s.updCavity i fun c => c.updPass k fun p => { p with chain := ch }
  | _ =>
    s.updStore fun t =>
      { t with
        free := t.free + (heldBy t.reroute - ownedSlots t.reroute i)
        reroute := some { owner := i, chain := ch }
        nextSerial := if t.reroute.isSome then t.nextSerial else t.nextSerial + 1 }

/-- The chain is the one the engine works along (R47, step 5). -/
def State.isActiveChain (s : State) (i : CavityId) (ref : ChainRef) : Bool :=
  decide (s.job.active = some i) && decide (s.engine.chain = some ref)

/-- The engine leaves STARVED: to the hold, or to CUTTING (R89). -/
def State.leaveStarved (s : State) : State :=
  let s1 := s.servoReset
  if s1.atHold then settle s1.reachHold else s1.setEngineState .cutting

/-- The engine hears of the new end of its chain: an engine STARVED leaves it, one PAUSED out of STARVED will (R89, R100). -/
def State.heardAppend (s : State) : State :=
  match s.engine.state with
  | .starved => s.leaveStarved
  | .paused => if s.engine.resume = some .starved then s.updEngine fun e => { e with resume := some .cutting } else s
  | _ => s

/-- A record of a chain that is not AT_HOLD: it takes a slot and joins its chain; the active chain is engaged and the engine
told (R47, R48). -/
def State.acceptQueued (s : State) (p : Placed) (r : SegRecord) (ch : Chain) (g : Segment) : State :=
  let s1 := s.takeSlot.putChain p.id p.ref (ch.append p.ref r g)
  if s.isActiveChain p.id p.ref then s1.engage.heardAppend else s1

/-- The CLOSE of a pass AT_HOLD is reported: to the recovery unit while it recovers, else to the engine, which completes the pass
now, or in a pause makes the first four steps now (R93, R94, R100, R133). -/
def State.closeReported (s : State) (k : PassIx) : State :=
  if s.recovery.stage ≠ .none then s.updRecovery fun v => { v with closePending := true }
  else if s.engine.state = .paused then s.completeSteps k
  else State.completePasses maxPasses s

/-- A pass-0 segment pushed onto the bridge stack as it is accepted (R57). -/
def Cavity.push (r : SegRecord) (g : Segment) (c : Cavity) : Cavity :=
  let c1 : Cavity := { c with bridge := c.bridge ++ [{ g with state := .parked }] }
  if r.close then c1.recordBridge else c1

/-- A record of a pass AT_HOLD: parked in pass 0, discarded in a skim pass; its CLOSE is reported (R47 step 6, R57, R58). -/
def State.acceptAtHold (s : State) (p : Placed) (k : PassIx) (r : SegRecord) (ch : Chain) (g : Segment) : State :=
  let counted := ch.counted p.ref r g
  let s1 :=
    if k = 0 then (s.takeSlot.putChain p.id p.ref counted).updCavity p.id (Cavity.push r g)
    else s.putChain p.id p.ref { counted with retired := counted.retired + 1 }
  if r.close then s1.closeReported k else s1

/-- An accepted record (R47); the first reroute segment moves the recovery unit on (R131). -/
def State.acceptRecord (s : State) (p : Placed) (r : SegRecord) : State :=
  let ch := s.targetChain p.id p.cavity p.ref
  let g := r.segment ch (appendPoint p.cavity p.ref ch)
  match p.ref with
  | .pass k =>
    if (p.cavity.passes[k]).state = .atHold then s.acceptAtHold p k r ch g else s.acceptQueued p r ch g
  | _ =>
    let s1 := s.acceptQueued p r ch g
    if s.recovery.stage = .awaitReroute then s1.enterReroute else s1

/-! ### SEG_APPEND (R43) -/

/-- What the records of a request come to: the state, the result, the number accepted. -/
structure Appended where
  state : State
  result : Result
  count : Nat

/-- One record: refused, or accepted with all its effects, the actions it raised among them, before the next is checked (R43,
R158). -/
def State.appendOne (s : State) (r : SegRecord) : Except Result State :=
  match s.place r with
  | .ok p =>
    match s.checkPlaced p r with
    | none => .ok (s.acceptRecord p r).drain
    | some e => .error e
  | .error e => .error e

/-- The records in their order, up to the first refused one (R43). -/
def State.appendAll : List SegRecord → Nat → State → Appended
  | [], n, s => ⟨s, .ok, n⟩
  | r :: rest, n, s =>
    match s.appendOne r with
    | .ok s1 => State.appendAll rest (n + 1) s1
    | .error e => ⟨s, e, n⟩

/-- The data of a SEG_APPEND reply: accepted count and free count (R43, chapter 11.2). -/
def Appended.answer (a : Appended) : Answer := ⟨a.state, a.result, enc8 a.count ++ enc16 a.state.store.free⟩

/-- The lengths of SEG_APPEND: 13·n for n = 1 to 16 (R179). -/
def appendLength (n : Nat) : Bool := within 13 208 n && n % 13 == 0

/-- The job takes geometry (R43, R50). -/
def JobState.takesGeometry : JobState → Bool
  | .loading | .running | .paused => true
  | .idle | .halted | .complete => false

/-- SEG_APPEND (R43). The job state is tested once, before the records: a HALT that an accepted record raises does not refuse the
later records of the request (notes/assumptions/34.md). -/
def execSegAppend (tag : Byte) (payload : List Byte) (s : State) : Host.Outcome State Fault Refusal :=
  s.request 0x30#8 tag payload (appendLength payload.length) fun s =>
    if s.job.state.takesGeometry then
      (State.appendAll (parseRecords payload 0 (payload.length / 13)) 0 s).answer
    else (Appended.mk s .wrongState 0).answer

/-! ### SEG_REVISE (R50) -/

/-- The segment of a chain that is QUEUED under a sequence. -/
def Chain.queuedAt (ch : Chain) (seq : Nat) : Bool :=
  ch.segs.any fun g => decide (g.seq = seq) && decide (g.state = .queued)

/-- The feed class of a sequence replaced (R50). -/
def Chain.revise (ch : Chain) (seq : Nat) (cls : ClassIx) : Chain :=
  { ch with segs := ch.segs.map fun g => if g.seq = seq then { g with feedClass := cls } else g }

/-- The tests of SEG_REVISE that follow the cavity's (R50). -/
def State.revise (s : State) (i : CavityId) (c : Cavity) (payload : List Byte) : Answer :=
  match indexOf 8 (byteAt payload 4), chainOfCode (byteAt payload 1) with
  | some cls, some ref =>
    let seq := u16At payload 2
    if !c.hasChain ref then s.refuse .badField
    else if ref = .reroute ∧ (s.rerouteOf i).isNone = true then s.refuse .badField
    else
      let ch := s.targetChain i c ref
      if ch.nextSeq ≤ seq then s.refuse .badField
      else if ch.queuedAt seq then (s.putChain i ref (ch.revise seq cls)).accept
      else s.refuse .tooLate
  | _, _ => s.refuse .badField

/-- SEG_REVISE (R50). -/
def execSegRevise (tag : Byte) (payload : List Byte) (s : State) : Host.Outcome State Fault Refusal :=
  s.request 0x31#8 tag payload (payload.length == 5) fun s =>
    if !s.job.state.takesGeometry then s.refuse .wrongState
    else
      match indexOf 64 (byteAt payload 0) with
      | some i =>
        match s.cavity i with
        | some c => if c.state.isFinal then s.refuse .noCavity else s.revise i c payload
        | none => s.refuse .noCavity
      | none => s.refuse .noCavity

end Sys2Proof.Machine
end

