-- ==== Sys2Proof/Machine/EventRequests.lean ====
section
/-! DEFINITION. The requests of the event map, the output channels, the interlock (chapter 9), the clock and the log (chapter
10). -/

namespace Sys2Proof.Machine

/-! ### The maps (R161 to R164) -/

/-- The action set of MAP_WRITE (chapter 11.2). -/
def sentActions (payload : List Byte) : ActionSet := BitVec.ofNat 32 (u32At payload 2)

/-- The entry stored for a set sent: its union with the code's locked set (R161). -/
def storedEntry (code : Code) (sent : ActionSet) : ActionSet := sent ||| lockedSet code.val

/-- The entry of a code in a named map replaced. -/
def EventMap.write (m : EventMap) (name : MapName) (code : Code) (entry : ActionSet) : EventMap :=
  match name with
  | .a => { m with mapA := m.mapA.set code.val entry }
  | .b => { m with mapB := m.mapB.set code.val entry }

/-- MAP_WRITE (R161, R180). -/
def execMapWrite (tag : Byte) (payload : List Byte) (s : State) : Host.Outcome State Fault Refusal :=
  s.request 0x40#8 tag payload (payload.length == 6) fun s =>
    match mapOf (byteAt payload 0), indexOf 64 (byteAt payload 1) with
    | some name, some code =>
      if hasUnusedBit (sentActions payload) || setsAndClears (sentActions payload) then s.refuse .badField
      else if name = s.maps.active then s.refuse .activeMap
      else (s.updMaps fun m => m.write name code (storedEntry code (sentActions payload))).accept
    | _, _ => s.refuse .badField

/-- MAP_READ (R162). -/
def execMapRead (tag : Byte) (payload : List Byte) (s : State) : Host.Outcome State Fault Refusal :=
  s.request 0x41#8 tag payload (payload.length == 2) fun s =>
    match mapOf (byteAt payload 0), indexOf 64 (byteAt payload 1) with
    | some name, some code => ⟨s, .ok, enc32 (s.maps.entry name code).toNat⟩
    | _, _ => s.refuse .badField

/-- The other map. -/
def MapName.other : MapName → MapName
  | .a => .b
  | .b => .a

/-- MAP_SWAP (R163). -/
def execMapSwap (tag : Byte) (payload : List Byte) (s : State) : Host.Outcome State Fault Refusal :=
  s.request 0x42#8 tag payload (payload.length == 0) fun s =>
    ⟨s.updMaps fun m => { m with active := m.active.other }, .ok, enc8 s.maps.active.other.code⟩

/-- EVENT_INJECT (R164). -/
def execEventInject (tag : Byte) (payload : List Byte) (s : State) : Host.Outcome State Fault Refusal :=
  s.request 0x43#8 tag payload (payload.length == 3) fun s =>
    match indexOf 64 (byteAt payload 0) with
    | some code => (s.raise code (u16At payload 1)).accept
    | none => s.refuse .badField

/-! ### Output channels (R165, R166) -/

/-- A configuration stored in a channel: an IDLE channel takes it into force at once (R165). -/
def Channel.configure (c : Channel) (cfg : ChannelConfig) : Channel :=
  match c.state with
  | .idle => { c with stored := cfg, inForce := cfg, output := cfg.level false }
  | _ => { c with stored := cfg }

/-- CHANNEL_SET (R165). -/
def execChannelSet (tag : Byte) (payload : List Byte) (s : State) : Host.Outcome State Fault Refusal :=
  s.request 0x48#8 tag payload (payload.length == 6) fun s =>
    match indexOf 4 (byteAt payload 0), polarityOf (byteAt payload 5) with
    | some n, some polarity =>
      if u16At payload 3 = 0 then s.refuse .badField
      else
        let cfg : ChannelConfig := { delay := u16At payload 1, width := u16At payload 3, polarity := polarity }
        (s.updChannels fun v => v.set n.val ((v[n]).configure cfg)).accept
    | _, _ => s.refuse .badField

/-- CHANNEL_GET (R165). -/
def execChannelGet (tag : Byte) (payload : List Byte) (s : State) : Host.Outcome State Fault Refusal :=
  s.request 0x49#8 tag payload (payload.length == 1) fun s =>
    match indexOf 4 (byteAt payload 0) with
    | some n =>
      let c := s.channels[n]
      ⟨s, .ok, enc16 c.stored.delay ++ enc16 c.stored.width ++ enc8 c.stored.polarity.code ++ enc8 c.state.code⟩
    | none => s.refuse .badField

/-- The delay expiry of a DELAYING channel (R166). -/
def Channel.delayExpired (c : Channel) : Channel :=
  match c.state with
  | .delaying => c.activate
  | _ => c

/-- The width expiry of an ACTIVE channel: IDLE, the stored configuration in force, the output inactive (R165, R166). -/
def Channel.widthExpired (c : Channel) : Channel :=
  match c.state with
  | .active => { c with state := .idle, timer := none, inForce := c.stored, output := c.stored.level false }
  | _ => c

/-- PULSE_DELAY_EXPIRY (R166). -/
def execPulseDelayExpiry (ch : Fin 4) (s : State) : Host.Outcome State Fault Refusal :=
  s.whenOperating fun s => s.updChannels fun v => v.set ch.val (v[ch]).delayExpired

/-- PULSE_WIDTH_EXPIRY (R166). -/
def execPulseWidthExpiry (ch : Fin 4) (s : State) : Host.Outcome State Fault Refusal :=
  s.whenOperating fun s => s.updChannels fun v => v.set ch.val (v[ch]).widthExpired

/-! ### The interlock's requests (R170, R171) -/

/-- The INTERLOCK reason removed. -/
def Reasons.closed (r : Reasons) : Reasons := { r with interlock := false }

/-- INTERLOCK_CLEAR (R170). -/
def execInterlockClear (tag : Byte) (payload : List Byte) (s : State) : Host.Outcome State Fault Refusal :=
  s.request 0x4C#8 tag payload (payload.length == 0) fun s =>
    if s.pins.interlock then
      ((s.updInterlock fun i => { i with latched := false }).removeReasons Reasons.closed).accept
    else s.refuse .interlock

/-- INTERLOCK_MODE: a change to FOLLOW clears the latched flag (R171). -/
def execInterlockMode (tag : Byte) (payload : List Byte) (s : State) : Host.Outcome State Fault Refusal :=
  s.request 0x4D#8 tag payload (payload.length == 1) fun s =>
    match s.job.state with
    | .idle | .loading =>
      match interlockModeOf (byteAt payload 0) with
      | some .follow => (s.updInterlock fun _ => { mode := .follow, latched := false }).accept
      | some .latch => (s.updInterlock fun i => { i with mode := .latch }).accept
      | none => s.refuse .badField
    | _ => s.refuse .wrongState

/-! ### Clock and log (R172, R173, R176) -/

/-- CLOCK_SET (R173). -/
def execClockSet (tag : Byte) (payload : List Byte) (s : State) : Host.Outcome State Fault Refusal :=
  s.request 0x50#8 tag payload (payload.length == 4) fun s =>
    (s.updClock fun _ => BitVec.ofNat 32 (u32At payload 0)).accept

/-- The data of a LOG_READ reply (chapter 11.2). -/
def logReadData (taken left : List LogRecord) : List Byte :=
  enc8 taken.length ++ enc16 left.length ++ (taken.map LogRecord.encode).flatten

/-- LOG_READ (R176). -/
def execLogRead (tag : Byte) (payload : List Byte) (s : State) : Host.Outcome State Fault Refusal :=
  s.request 0x51#8 tag payload (payload.length == 1) fun s =>
    let n := byteAt payload 0
    if within 1 8 n then ⟨s.updLog (List.drop n), .ok, logReadData (s.log.take n) (s.log.drop n)⟩ else s.refuse .badField

/-- JOB_CLOCK_ADVANCE: the clock advances by one and wraps (R172). -/
def execJobClockAdvance (s : State) : Host.Outcome State Fault Refusal :=
  s.whenOperating fun s => s.updClock fun c => c + 1

end Sys2Proof.Machine
end

