-- ==== Sys2Proof/Machine/MachineEvents.lean ====
section
/-! DEFINITION. The events of the generator port and the motion port (R62, R63, R83 to R85) and of the store's pacing timer
(R61). -/

namespace Sys2Proof.Machine

/-! ### Generator port -/

/-- WINDOW_REPORT: the generator watch, the engine's window, the set-point, and then the actions of the codes raised: a faulted
report in CUTTING is a no-discharge window, and the pause follows (R62, R63, R68, R83; notes/assumptions/12.md, 13.md). A
message of the wrong length is no arrival (R180). -/
def execWindowReport (msg : List Byte) (s : State) : Host.Outcome State Fault Refusal :=
  s.whenOperating fun s =>
    match parseReport msg with
    | some r => (((s.genReport r).engineWindow r).sendSetPoint).finish true
    | none => s

/-- GEN_SILENCE_EXPIRY: the timer stays stopped; GEN_FAULT is raised once per occurrence (R63). -/
def execGenSilenceExpiry (s : State) : Host.Outcome State Fault Refusal :=
  s.whenOperating fun s =>
    if s.genWatch.timer.isSome then
      let s1 := s.updGenWatch fun _ => { timer := none, latch := true }
      (if s.genWatch.latch then s1 else s1.raise Event.genFault 0).finish false
    else s

/-! ### Motion port -/

/-- Under TRACK a reply's positions become the commanded position (R84). -/
def State.track (s : State) (p : Point) : State :=
  if s.tracking then s.updEngine fun e => { e with commanded := p } else s

def DriveReply.faulted (r : DriveReply) : Bool := r.xFault || r.yFault

/-- The detail of DRIVE_FAULT: 1 for X, 2 for Y, 3 for both (R85). -/
def DriveReply.detail (r : DriveReply) : Nat := flagBit r.xFault 0 + flagBit r.yFault 1

/-- The drive watch at a reply (R85). -/
def State.driveWatched (s : State) (r : DriveReply) : State :=
  let s1 := s.updDriveWatch fun _ => { timer := none, latch := r.faulted }
  if r.faulted && !s.driveWatch.latch then s1.raise Event.driveFault r.detail else s1

/-- DRIVE_REPLY (R84, R85); a message of the wrong length is no arrival (R180). -/
def execDriveReply (msg : List Byte) (s : State) : Host.Outcome State Fault Refusal :=
  s.whenOperating fun s =>
    match parseDriveReply msg with
    | some r => ((s.track r.pos).driveWatched r).finish false
    | none => s

/-- DRIVE_REPLY_TIMER_EXPIRY (R85). -/
def execDriveReplyTimerExpiry (s : State) : Host.Outcome State Fault Refusal :=
  s.whenOperating fun s =>
    if s.driveWatch.timer.isSome then
      let s1 := s.updDriveWatch fun _ => { timer := none, latch := true }
      (if s.driveWatch.latch then s1 else s1.raise Event.driveFault 4).finish false
    else s

/-! ### The pacing timer (R61) -/

def allIds : List CavityId := (List.range 64).filterMap (indexOf 64)

def allPasses : List PassIx := [0, 1, 2, 3]

/-- A chain's retired count is not yet reported. -/
def Chain.unreported (c : Chain) : Bool := decide (c.retired ≠ c.reported)

/-- The active chain, if its count differs. -/
def State.activeProgress (s : State) : Option ProgressContent :=
  match s.engine.chain, s.activeChain, s.job.active with
  | some r, some c, some i =>
    if c.unreported then
      some { cavity := i, chain := r, h := s.engine.h, retired := c.retired, free := s.store.free, serial := c.serial }
    else none
  | _, _, _ => none

/-- A pass chain whose count differs, with its H: the present one while it is active, else the saved one. -/
def State.passProgress (s : State) (i : CavityId) (c : Cavity) (k : PassIx) : Option ProgressContent :=
  let p := c.passes[k]
  if p.chain.unreported then
    some
      { cavity := i, chain := .pass k, h := (s.passPH i k p).2, retired := p.chain.retired, free := s.store.free
        serial := p.chain.serial }
  else none

/-- A cavity's separation chain whose count differs, once it is not the active one: its H is its end offset, where it ended
(R154; notes/assumptions/14.md). -/
def State.separationProgress (s : State) (i : CavityId) : Option ProgressContent :=
  match s.store.separation with
  | some o =>
    if o.owner = i ∧ o.chain.unreported then
      some
        { cavity := i, chain := .separation, h := o.chain.endOffset, retired := o.chain.retired, free := s.store.free
          serial := o.chain.serial }
    else none
  | none => none

/-- The lowest pass of a cavity whose count differs, and its separation chain after them. -/
def State.cavityProgress (s : State) (i : CavityId) : Option ProgressContent :=
  match s.cavity i with
  | some c => allPasses.findSome? (s.passProgress i c) <|> s.separationProgress i
  | none => none

/-- The PROGRESS notice formed now, if any (R61): for the active chain, else for the lowest cavity and its lowest pass. -/
def State.progress (s : State) : Option ProgressContent := s.activeProgress <|> allIds.findSome? s.cavityProgress

/-- PACING_TIMER_EXPIRY: the timer restarts, and a PROGRESS notice is offered when a count differs (R61). -/
def execPacingTimerExpiry (s : State) : Host.Outcome State Fault Refusal :=
  s.whenOperating fun s =>
    if s.store.pacing.isSome then
      let s1 := s.updStore fun t => { t with pacing := some s.params.pacing }
      (match s.progress with
        | some c => s1.offer (.progress c)
        | none => s1).finish false
    else s

end Sys2Proof.Machine
end

