-- ==== Sys2Proof/Machine/ThreadingEvents.lean ====
section
/-! DEFINITION. The timers and sensor edges of the threading unit (chapter 6) and the hand-over at the end of a SEVER (R115,
R121). -/

namespace Sys2Proof.Machine

/-- The unit is in a state and not suspended (R118). -/
def State.unitIn (s : State) (st : ThreadState) : Bool :=
  decide (s.threading.state = st) && s.threading.restart.isNone

/-! ### The end of a SEVER (R28, R115, R121) -/

/-- The end of the SEVER after the last pass: RETAINED for BRIDGE, with the pass chains freed; DONE otherwise (R28). -/
def State.lastPassSevered (s : State) (i : CavityId) : State :=
  match s.cavity i with
  | some c =>
    if c.effective = some .bridge then (s.setCavState i .retained).freePasses i else s.doneCavity i
  | none => s

/-- The pre-threading SEVER has ended: attempt 1 begins (R107). -/
def State.firstAttempt (s : State) : State :=
  match s.threading.work with
  | some w => s.beginAttempt w
  | none => s

/-- The end of a SEVER handed to the block that asked for it (R121). -/
def State.handSevered (s : State) (v : Severing) : State :=
  match v.purpose with
  | .lastPass => s.lastPassSevered v.cavity
  | .separation => s.doneCavity v.cavity
  | .preThread => s.firstAttempt
  | .stubCut => s.stubDone
  | .machine => s

/-- A SEVER ends: the unit is IDLE (R115, step 6). -/
def State.severEnd (s : State) (v : Severing) : State :=
  (s.updThreading fun t => { t with state := .idle, sever := none, timer := none, out := .off }).handSevered v

/-- The cutter is home in a SEVER: the withdraw phase of the full form, the end of the stub form (R115, step 5). -/
def State.severHome (s : State) (v : Severing) : State :=
  match v.form with
  | .full => s.severWithdrawPhase v
  | .stub => s.severEnd v

/-! ### Timers -/

/-- ANNEAL_EXPIRY (R108). -/
def execAnnealExpiry (s : State) : Host.Outcome State Fault Refusal :=
  s.whenOperating fun s =>
    match s.unitIn .anneal, s.threading.work with
    | true, some w => (s.beginTrim w).finish false
    | _, _ => s

/-- The pulse ends with the cutter not home: CUTTER off, the home wait starts (R109). -/
def State.startHomeWait (s : State) : State :=
  s.updThreading fun t =>
    { t with
      homeWait := decide (t.state = .trim)
      sever := t.sever.map fun v => { v with phase := .homeWait }
      timer := some Config.homeWaitTime, out := .off }

/-- The level of CUTTER_HOME that is read as a cutter pulse ends (R106). -/
def State.readHome (s : State) (home : Bool) : State := s.updPins fun p => { p with cutterHome := home }

/-- TRIM_PULSE_END (R109). -/
def execTrimPulseEnd (home : Bool) (s : State) : Host.Outcome State Fault Refusal :=
  s.whenOperating fun s =>
    if s.unitIn .trim && !s.threading.homeWait then
      (if home then (s.readHome home).beginPosition else (s.readHome home).startHomeWait).finish false
    else s

/-- The SEVER in progress in a phase, while the unit is not suspended. -/
def State.severingIn (s : State) (ph : SeverPhase) : Option Severing :=
  match s.unitIn .sever, s.threading.sever with
  | true, some v => if v.phase = ph then some v else none
  | _, _ => none

/-- SEVER_PULSE_END (R115, step 4). -/
def execSeverPulseEnd (home : Bool) (s : State) : Host.Outcome State Fault Refusal :=
  s.whenOperating fun s =>
    match s.severingIn .pulse with
    | some v => (if home then (s.readHome home).severHome v else (s.readHome home).startHomeWait).finish false
    | none => s

/-- SEVER_WITHDRAW_EXPIRY (R115, steps 5 and 6). -/
def execSeverWithdrawExpiry (s : State) : Host.Outcome State Fault Refusal :=
  s.whenOperating fun s =>
    match s.severingIn .withdraw with
    | some v => (s.severEnd v).finish false
    | none => s

/-- The home wait has run out: outputs off, the restart mark set, CUTTER_STUCK raised (R116). -/
def State.cutterStuck (s : State) (restart : RestartPoint) (detail : Nat) : State :=
  (s.updThreading fun t => { t with homeWait := false, timer := none, restart := some restart, out := .off }).raise
    Event.cutterStuck detail

/-- CUTTER_HOME_TIMEOUT (R116). -/
def execCutterHomeTimeout (s : State) : Host.Outcome State Fault Refusal :=
  s.whenOperating fun s =>
    if s.unitIn .trim && s.threading.homeWait then (s.cutterStuck .attempt 1).finish false
    else
      match s.severingIn .homeWait with
      | some _ => (s.cutterStuck .cutPhase 2).finish false
      | none => s

/-- PASS_TIMEOUT (R111, R113). -/
def execPassTimeout (s : State) : Host.Outcome State Fault Refusal :=
  s.whenOperating fun s => if s.unitIn .jet then (s.attemptFailed 1).finish false else s

/-- TENSION_TIMEOUT (R112, R113). -/
def execTensionTimeout (s : State) : Host.Outcome State Fault Refusal :=
  s.whenOperating fun s => if s.unitIn .tension then (s.attemptFailed 2).finish false else s

/-- The unit after a WITHDRAW: FEED_REV off, and the next attempt, FAILED, or IDLE (R113, R120). -/
def State.withdrawn (s : State) (w : Withdrawing) : State :=
  let s1 := s.updThreading fun t => { t with withdraw := none, timer := none, out := .off }
  match w.next with
  | .failed => s1.updThreading fun t => { t with state := .failed }
  | .idle => s1.updThreading fun t => { t with state := .idle }
  | .nextAttempt =>
    match s.threading.work with
    | some v => s1.beginAttempt { v with attempt := v.attempt + 1 }
    | none => s1.updThreading fun t => { t with state := .idle }

/-- WITHDRAW_EXPIRY (R113, step 5); a TO_HOLE that waited for it requests its move (R129). -/
def execWithdrawExpiry (s : State) : Host.Outcome State Fault Refusal :=
  s.whenOperating fun s =>
    match s.unitIn .withdraw, s.threading.withdraw with
    | true, some w => ((s.withdrawn w).afterWithdraw).finish false
    | _, _ => s

/-! ### Sensor edges (R106) -/

/-- CUTTER_HOME_RISE: the home wait of TRIM or of a SEVER ends (R109, R115); the code is raised before what follows begins
(notes/assumptions/10.md). -/
def execCutterHomeRise (s : State) : Host.Outcome State Fault Refusal :=
  s.whenOperating fun s =>
    let s1 := (s.updPins fun p => { p with cutterHome := true }).raise Event.cutterHome 0
    (if s.unitIn .trim && s.threading.homeWait then s1.beginPosition
      else
        match s.severingIn .homeWait with
        | some v => s1.severHome v
        | none => s1).finish false

/-- PASS_SENSE_RISE: JET ends (R106, R111). -/
def execPassSenseRise (s : State) : Host.Outcome State Fault Refusal :=
  s.whenOperating fun s =>
    let s1 := s.updPins fun p => { p with passSense := true }
    ((if s.unitIn .jet then s1.beginTension else s1).raise Event.passSense 0).finish false

/-- The attempt succeeds: WIRE_IN set, jet and feed off, THREADED (R112, steps 1 to 3). -/
def Threading.threaded (t : Threading) : Threading :=
  { t with state := .threaded, wireIn := true, timer := none, out := { ThreadOut.off with tensionEngage := true } }

/-- TENSION_SENSE_RISE: TENSION ends in success, handed to its requester after the code is raised (R106, R112, R121;
notes/assumptions/10.md). -/
def execTensionSenseRise (s : State) : Host.Outcome State Fault Refusal :=
  s.whenOperating fun s =>
    let s1 := s.updPins fun p => { p with tensionSense := true }
    (match s.unitIn .tension, s.threading.work with
      | true, some w =>
        (((s1.updThreading Threading.threaded).raise Event.tensionOk 0).endWork w).handSuccess w
      | _, _ => s1.raise Event.tensionOk 0).finish false

/-- TENSION_SENSE_FALL: WIRE_LOST while WIRE_IN is set (R106, R117). -/
def execTensionSenseFall (s : State) : Host.Outcome State Fault Refusal :=
  s.whenOperating fun s =>
    let s1 := s.updPins fun p => { p with tensionSense := false }
    (if s.threading.wireIn then s1.raise Event.wireLost 0 else s1).finish false

end Sys2Proof.Machine
end

