-- ==== Sys2Proof/Machine/InputEvents.lean ====
section
/-! DEFINITION. The clamp sensor and the clamp wait timer (chapter 8), the interlock's edges (R168, R169) and the event map's own
inputs (R156). -/

namespace Sys2Proof.Machine

/-! ### Clamp (R142, R143, R148) -/

/-- CLAMP_SENSE_RISE: a standing request is confirmed; CLAMP_OK carries 1 when it was (R142). -/
def execClampSenseRise (s : State) : Host.Outcome State Fault Refusal :=
  s.whenOperating fun s =>
    let s1 := s.updPins fun p => { p with clampSense := true }
    (match s.retention.clamp with
      | .requested i => (s1.confirmClamp i).raise Event.clampOk 1
      | _ => s1.raise Event.clampOk 0).finish false

/-- CLAMP_SENSE_FALL: CLAMP_LOST while HELD, with the holder's id (R148). -/
def execClampSenseFall (s : State) : Host.Outcome State Fault Refusal :=
  s.whenOperating fun s =>
    let s1 := s.updPins fun p => { p with clampSense := false }
    (match s.retention.clamp with
      | .held i => s1.raise Event.clampLost i.val
      | _ => s1).finish false

/-- CLAMP_WAIT_EXPIRY: the request is withdrawn and the cavity degrades with cause TIMEOUT (R143, R144). -/
def execClampWaitExpiry (s : State) : Host.Outcome State Fault Refusal :=
  s.whenOperating fun s =>
    match s.retention.clamp, s.retention.timer with
    | .requested _, some _ => (settle ((s.updRetention Retention.freed).degrade 1)).finish false
    | _, _ => s

/-! ### Interlock (R168, R169) -/

/-- INTERLOCK_FALL (R168). -/
def execInterlockFall (s : State) : Host.Outcome State Fault Refusal :=
  s.whenOperating fun s =>
    let s1 := (s.updPins fun p => { p with interlock := false }).updInterlock fun i =>
      { i with latched := i.latched || decide (i.mode = .latch) }
    ((s1.addReason Reasons.addInterlock).raise Event.interlockOpen s.interlock.mode.code).finish false

/-- INTERLOCK_RISE: FOLLOW removes the reason, LATCH keeps it; the detail says whether the flag is still set (R169). -/
def execInterlockRise (s : State) : Host.Outcome State Fault Refusal :=
  s.whenOperating fun s =>
    let s1 := s.updPins fun p => { p with interlock := true }
    (match s.interlock.mode with
      | .follow => (s1.removeReasons Reasons.closed).raise Event.interlockClosed 0
      | .latch => s1.raise Event.interlockClosed (flagBit s.interlock.latched 0)).finish false

/-! ### The event map's inputs (R156) -/

/-- DIELECTRIC_OK_FALL (R156). -/
def execDielectricOkFall (s : State) : Host.Outcome State Fault Refusal :=
  s.whenOperating fun s =>
    ((s.updPins fun p => { p with dielectricOk := false }).raise Event.dielectricLow 0).finish false

/-- SPOOL_LOW_RISE (R156). -/
def execSpoolLowRise (s : State) : Host.Outcome State Fault Refusal :=
  s.whenOperating fun s => ((s.updPins fun p => { p with spoolLow := true }).raise Event.spoolLow 0).finish false

/-- The level of EXT_INn after an edge. -/
def setExt (ext : BitVec 8) (n : Fin 8) (level : Bool) : BitVec 8 :=
  if level then ext ||| (1#8 <<< n.val) else ext &&& ~~~(1#8 <<< n.val)

/-- EXT_IN_EDGE: code 32 + n rising, 40 + n falling (R156). -/
def execExtInEdge (n : Fin 8) (rising : Bool) (s : State) : Host.Outcome State Fault Refusal :=
  s.whenOperating fun s =>
    ((s.updPins fun p => { p with ext := setExt p.ext n rising }).raise (extCode n rising) 0).finish false

end Sys2Proof.Machine
end

