-- ==== Sys2Proof/Machine/Dispatch.lean ====
section
/-! DEFINITION. One arm per command, each the direct call of its meaning. -/

namespace Sys2Proof.Machine

def exec (i : Instr) (s : State) : Host.Outcome State Fault Refusal :=
  match i with
  | .powerOn resetN pins => Sys2Proof.Machine.execPowerOn resetN pins s
  | .resetNAssert => Sys2Proof.Machine.execResetNAssert s
  | .resetNRelease pins => Sys2Proof.Machine.execResetNRelease pins s
  | .frameReceive bytes => Sys2Proof.Machine.execFrameReceive bytes s
  | .interByteGapExpiry => Sys2Proof.Machine.execInterByteGapExpiry s
  | .frameTransmitEnd => Sys2Proof.Machine.execFrameTransmitEnd s
  | .unknownKindRequest kind tag payload => Sys2Proof.Machine.execUnknownKindRequest kind tag payload s
  | .status tag payload => Sys2Proof.Machine.execStatus tag payload s
  | .reset tag payload => Sys2Proof.Machine.execReset tag payload s
  | .limitsSet service tag payload => Sys2Proof.Machine.execLimitsSet service tag payload s
  | .limitsGet tag payload => Sys2Proof.Machine.execLimitsGet tag payload s
  | .feedClassSet tag payload => Sys2Proof.Machine.execFeedClassSet tag payload s
  | .feedClassGet tag payload => Sys2Proof.Machine.execFeedClassGet tag payload s
  | .overrideSet tag payload => Sys2Proof.Machine.execOverrideSet tag payload s
  | .threadProfileSet tag payload => Sys2Proof.Machine.execThreadProfileSet tag payload s
  | .threadProfileGet tag payload => Sys2Proof.Machine.execThreadProfileGet tag payload s
  | .jobOpen tag payload => Sys2Proof.Machine.execJobOpen tag payload s
  | .jobStart tag payload => Sys2Proof.Machine.execJobStart tag payload s
  | .jobPause tag payload => Sys2Proof.Machine.execJobPause tag payload s
  | .jobResume tag payload => Sys2Proof.Machine.execJobResume tag payload s
  | .jobAbort tag payload => Sys2Proof.Machine.execJobAbort tag payload s
  | .jobClear tag payload => Sys2Proof.Machine.execJobClear tag payload s
  | .cavityPlan tag payload => Sys2Proof.Machine.execCavityPlan tag payload s
  | .cavityMove tag payload => Sys2Proof.Machine.execCavityMove tag payload s
  | .cavityAbandon tag payload => Sys2Proof.Machine.execCavityAbandon tag payload s
  | .cavityQuery tag payload => Sys2Proof.Machine.execCavityQuery tag payload s
  | .segAppend tag payload => Sys2Proof.Machine.execSegAppend tag payload s
  | .segRevise tag payload => Sys2Proof.Machine.execSegRevise tag payload s
  | .separate tag payload => Sys2Proof.Machine.execSeparate tag payload s
  | .slugRelease tag payload => Sys2Proof.Machine.execSlugRelease tag payload s
  | .mapWrite tag payload => Sys2Proof.Machine.execMapWrite tag payload s
  | .mapRead tag payload => Sys2Proof.Machine.execMapRead tag payload s
  | .mapSwap tag payload => Sys2Proof.Machine.execMapSwap tag payload s
  | .eventInject tag payload => Sys2Proof.Machine.execEventInject tag payload s
  | .channelSet tag payload => Sys2Proof.Machine.execChannelSet tag payload s
  | .channelGet tag payload => Sys2Proof.Machine.execChannelGet tag payload s
  | .interlockClear tag payload => Sys2Proof.Machine.execInterlockClear tag payload s
  | .interlockMode tag payload => Sys2Proof.Machine.execInterlockMode tag payload s
  | .clockSet tag payload => Sys2Proof.Machine.execClockSet tag payload s
  | .logRead tag payload => Sys2Proof.Machine.execLogRead tag payload s
  | .heartbeatExpiry => Sys2Proof.Machine.execHeartbeatExpiry s
  | .windowReport msg => Sys2Proof.Machine.execWindowReport msg s
  | .genSilenceExpiry => Sys2Proof.Machine.execGenSilenceExpiry s
  | .driveReply msg => Sys2Proof.Machine.execDriveReply msg s
  | .driveReplyTimerExpiry => Sys2Proof.Machine.execDriveReplyTimerExpiry s
  | .annealExpiry => Sys2Proof.Machine.execAnnealExpiry s
  | .trimPulseEnd home => Sys2Proof.Machine.execTrimPulseEnd home s
  | .cutterHomeRise => Sys2Proof.Machine.execCutterHomeRise s
  | .cutterHomeTimeout => Sys2Proof.Machine.execCutterHomeTimeout s
  | .passSenseRise => Sys2Proof.Machine.execPassSenseRise s
  | .passTimeout => Sys2Proof.Machine.execPassTimeout s
  | .tensionSenseRise => Sys2Proof.Machine.execTensionSenseRise s
  | .tensionTimeout => Sys2Proof.Machine.execTensionTimeout s
  | .withdrawExpiry => Sys2Proof.Machine.execWithdrawExpiry s
  | .severPulseEnd home => Sys2Proof.Machine.execSeverPulseEnd home s
  | .severWithdrawExpiry => Sys2Proof.Machine.execSeverWithdrawExpiry s
  | .tensionSenseFall => Sys2Proof.Machine.execTensionSenseFall s
  | .clampSenseRise => Sys2Proof.Machine.execClampSenseRise s
  | .clampSenseFall => Sys2Proof.Machine.execClampSenseFall s
  | .clampWaitExpiry => Sys2Proof.Machine.execClampWaitExpiry s
  | .interlockFall => Sys2Proof.Machine.execInterlockFall s
  | .interlockRise => Sys2Proof.Machine.execInterlockRise s
  | .dielectricOkFall => Sys2Proof.Machine.execDielectricOkFall s
  | .spoolLowRise => Sys2Proof.Machine.execSpoolLowRise s
  | .extInEdge n rising => Sys2Proof.Machine.execExtInEdge n rising s
  | .pulseDelayExpiry ch => Sys2Proof.Machine.execPulseDelayExpiry ch s
  | .pulseWidthExpiry ch => Sys2Proof.Machine.execPulseWidthExpiry ch s
  | .pacingTimerExpiry => Sys2Proof.Machine.execPacingTimerExpiry s
  | .jobClockAdvance => Sys2Proof.Machine.execJobClockAdvance s
  | .receivedByte data framingError => Sys2Proof.Machine.execReceivedByte data framingError s

end Sys2Proof.Machine
end

