-- ==== Sys2Proof/Safety.lean ====
section
/-! DEFINITION. What the statements speak of: the invariants the part keeps, the hypotheses under which a command runs with
nothing beside it, and the state that such a command leaves. -/

namespace Sys2Proof.Machine

/-! ### Invariants -/

/-- The lists of the link port and the log hold no more than their entries (R4, R6, R9, R175). -/
def State.listsBounded (s : State) : Prop :=
  s.link.requests.length ≤ 4 ∧ s.link.replies.length ≤ 4 ∧ s.link.notices.length ≤ 16 ∧ s.log.length ≤ 256

/-- Every entry of both maps contains its code's locked actions (R159). -/
def EventMap.keepsLocked (m : EventMap) : Prop :=
  ∀ (name : MapName) (code : Code), m.entry name code &&& lockedSet code.val = lockedSet code.val

/-- CLAMP_REQ is asserted exactly when the resource is not FREE (R138). -/
def State.clampReqFollows (s : State) : Prop := s.retention.clampReq = true ↔ s.retention.clamp ≠ .free

/-- No cavity but the active one is in an active state (R26). -/
def State.oneActive (s : State) : Prop :=
  ∀ (i : CavityId) (c : Cavity), s.cavity i = some c → c.state.isActive = true → s.job.active = some i

/-- The run order and the separation queue hold no id twice, and every id of the run order has a record (R30, R33). -/
def State.ordersSound (s : State) : Prop :=
  s.runOrder.Nodup ∧ s.sepQueue.Nodup ∧ ∀ i ∈ s.runOrder, (s.cavity i).isSome = true

/-- GEN_EN is asserted exactly while its five conditions hold, and the energy index is 0 while it is low (R86). -/
def State.genFollows (s : State) : Prop :=
  (s.engine.genEn = true ↔
    s.engine.state = .cutting ∧ (∃ g, s.segmentAtP = some g ∧ g.mode = .cut) ∧ s.threading.wireIn = true ∧
      s.job.state = .running ∧ s.pins.interlock = true) ∧
  (s.engine.genEn = false → s.engine.energy = 0)

/-- While the limits record is written, no stored value lies above its ceiling (R13, R14, R19, R64, R104). -/
def State.underCeilings (s : State) : Prop :=
  ∀ l : Limits, s.limits = some l →
    (∀ k : ClassIx, (s.feed[k]).cap ≤ l.feedCeil) ∧
    (∀ k : Fin 4, (s.profiles[k]).anneal ≤ l.annealCeil ∧ (s.profiles[k]).attempts ≤ l.attemptCeil ∧
      (s.profiles[k]).jetBase ≤ l.jetCeil ∧ (s.profiles[k]).kerfJet ≤ l.jetCeil) ∧
    (∀ p : JobParams, s.job.params = some p →
      p.retrace ≤ l.retraceCeil ∧ p.drySpeed ≤ l.rapidCeil ∧ p.rapidSpeed ≤ l.rapidCeil)

/-- The slots in chains, lead-in lists and bridge stacks (R38). -/
def State.heldSlots (s : State) : Nat :=
  (s.cavities.toList.map fun o => (o.map Cavity.slots).getD 0).sum +
    ((s.store.reroute.map fun o => o.chain.segs.length).getD 0) +
    ((s.store.separation.map fun o => o.chain.segs.length).getD 0)

/-- Free slots and slots in use together (R38). -/
def State.totalSlots (s : State) : Nat := s.store.free + s.heldSlots

/-- Every slot of the pool is free or held by one chain, list or stack (R38); an IDLE job has no cavity (R24), and the owner of a
reroute or separation chain has its record (R39). -/
def State.slotsSound (s : State) : Prop :=
  s.totalSlots = 2048 ∧ (s.job.state = .idle → ∀ i, s.cavity i = none) ∧
    ∀ o : OwnedChain, s.store.reroute = some o ∨ s.store.separation = some o → (s.cavity o.owner).isSome = true

/-! ### What a command needs to run with nothing beside it -/

/-- The command changes the power or the level of RESET_N (R16). -/
def isPowerEvent : Instr → Bool
  | .powerOn _ _ | .resetNAssert | .resetNRelease _ => true
  | _ => false

/-- No raised code waits to be handed, and the sequencer has nothing to select (R35, R158). -/
abbrev State.quiet (s : State) : Prop := s.raised = [] ∧ s.canSelect = false

/-- The actions of a code's entry that reach the job and the recovery unit have no effect in this state: no BREAK while WIRE_IN
is set, no HALT and no PAUSE while the job is RUNNING or PAUSED (R123, R157). -/
def State.inert (s : State) (code : Code) : Bool :=
  let entry := s.maps.entry s.maps.active code
  (!hasBreak entry || !s.threading.wireIn) &&
    (!(hasHalt entry || hasPause entry) ||
      (match s.job.state with
       | .running | .paused => false
       | .idle | .loading | .halted | .complete => true))

/-- The entry of a code pauses the job and neither halts it nor breaks the cut. -/
def State.onlyPauses (s : State) (code : Code) : Bool :=
  let entry := s.maps.entry s.maps.active code
  hasPause entry && !hasHalt entry && !hasBreak entry

/-! ### What such a command leaves -/

/-- The close of a command after which nothing is to be handed or selected: GEN_EN follows, the transmitter starts (R7, R86). -/
def State.closed (s : State) : State := (s.refreshGen false).startTransmit

/-- The same at a window report, after its set-point (R83). -/
def State.reported (s : State) : State := (s.sendSetPoint.refreshGen true).startTransmit

/-- The reply in the reply list (R6). -/
def State.pushReply (s : State) (kind tag : Byte) (r : Result) (data : List Byte) : State :=
  { s with
    link :=
      { s.link with
        replies := s.link.replies ++ [{ kind := kind ||| 0x80#8, tag := tag, payload := r.byte :: data }] } }

/-- The state with the decided request gone and its reply in the list, closed (R4, R6). -/
def State.replied (s : State) (kind tag : Byte) (r : Result) (data : List Byte) : State :=
  (s.popRequest.pushReply kind tag r data).closed

/-- The state with the record and the notice that a code's entry asks for (R8, R174). -/
def State.noted (s : State) (code : Code) (detail : Nat) : State :=
  let entry := s.maps.entry s.maps.active code
  let content : EventContent :=
    { cavity := s.job.active, chain := s.reportedChain, offset := s.reportedP, detail := detail, clock := s.clock }
  { s with
    log := if hasLog entry then pushLog s.log { code := code, content := content, discontinuity := false } else s.log
    link :=
      { s.link with
        notices := if hasNotify entry then offerNotice s.link.notices (.event code content) else s.link.notices } }

/-- The state with everything that an inert entry of a code does: its record, its notice, its outputs (R158). -/
def State.carried (s : State) (code : Code) (detail : Nat) : State :=
  (s.noted code detail).allOutputActions (s.maps.entry s.maps.active code)

/-- Two states agree in everything that no work of a job changes: pins and queue, limits, feed classes, override, profiles, maps,
channels, interlock, watches, log and clock (R23, R24). -/
def State.sameSettings (t s : State) : Prop :=
  (t.pending = s.pending ∧ t.power = s.power ∧ t.pins = s.pins ∧ t.limits = s.limits ∧ t.feed = s.feed ∧
    t.feedOverride = s.feedOverride ∧ t.profiles = s.profiles) ∧
  (t.maps = s.maps ∧ t.channels = s.channels ∧ t.levels = s.levels ∧ t.interlock = s.interlock ∧ t.genWatch = s.genWatch ∧
    t.driveWatch = s.driveWatch ∧ t.log = s.log ∧ t.clock = s.clock)

/-! ### The threading unit at the start of its steps -/

/-- The unit at the start of attempt `w`: ANNEAL on and timed, or, where the profile's anneal time is 0, CUTTER on and the trim
pulse timed (R107 to R109). -/
def Threading.attempting (t : Threading) (p : Profile) (w : Attempting) : Threading :=
  { t with
    state := if p.anneal = 0 then .trim else .anneal
    work := some w, homeWait := false, timer := some (if p.anneal = 0 then p.trim else p.anneal)
    out := if p.anneal = 0 then { ThreadOut.off with cutter := true } else { ThreadOut.off with anneal := true } }

/-- The unit in the cut phase of a SEVER: CUTTER on, the trim pulse timed (R115, step 3). -/
def Threading.cuttingOff (t : Threading) (p : Profile) (v : Severing) : Threading :=
  { t with
    state := .sever, sever := some { v with phase := .pulse }, timer := some p.trim
    out := { ThreadOut.off with cutter := true } }

/-- The unit at the start of a SEVER: WIRE_IN clear, and the cut phase (R115, steps 1 to 3). -/
def Threading.severing (t : Threading) (p : Profile) (form : SeverForm) (purpose : SeverFor) (cavity : CavityId) : Threading :=
  Threading.cuttingOff { t with wireIn := false, withdraw := none, restart := none } p
    { form := form, phase := .pulse, purpose := purpose, cavity := cavity }

/-- The unit at the start of a WITHDRAW: FEED_REV on for the withdraw time (R113, step 4). -/
def Threading.withdrawing (t : Threading) (p : Profile) (w : Withdrawing) : Threading :=
  { t with
    state := .withdraw, withdraw := some w, timer := some p.withdraw, out := { ThreadOut.off with feedRev := true } }

/-- The unit after a stop: IDLE with nothing in progress and all outputs off; WIRE_IN stays (R120). -/
def Threading.atRest (t : Threading) : Threading :=
  { t with
    state := .idle, work := none, homeWait := false, sever := none, withdraw := none, timer := none, restart := none
    deferred := none, out := .off }

/-! ### The catalogue of payload lengths -/

/-- The payload lengths that a request KIND is permitted (R4, R179, chapter 11.2). -/
def permittedLength (kind : Byte) (n : Nat) : Bool :=
  if [0x01#8, 0x02#8, 0x11#8, 0x21#8, 0x22#8, 0x23#8, 0x24#8, 0x25#8, 0x42#8, 0x4C#8].contains kind then n == 0
  else if [0x19#8, 0x1B#8, 0x1C#8, 0x2A#8, 0x2B#8, 0x38#8, 0x39#8, 0x49#8, 0x4D#8, 0x51#8].contains kind then n == 1
  else if [0x29#8, 0x41#8].contains kind then n == 2
  else if kind = 0x43#8 then n == 3
  else if kind = 0x50#8 then n == 4
  else if kind = 0x31#8 then n == 5
  else if [0x40#8, 0x48#8].contains kind then n == 6
  else if kind = 0x18#8 then n == 9
  else if kind = 0x10#8 then n == 10
  else if kind = 0x28#8 then n == 17
  else if kind = 0x20#8 then n == 0 || n == 16
  else if kind = 0x1A#8 then decide (n ∈ [19, 23, 27, 31, 35, 39, 43, 47, 51])
  else if kind = 0x30#8 then decide (1 ≤ n / 13 ∧ n / 13 ≤ 16 ∧ n % 13 = 0)
  else false

end Sys2Proof.Machine
end

