-- ==== Sys2Proof/Certificates/Slice0/Obligations.lean ====
section
/-! DEFINITION. The statements of this row, in the order of OBLIGATIONS.json. A request's result is written as the state its rule
gives, then `replied`: the request gone, its reply in the list, GEN_EN and the transmitter brought up to date. `quiet` says that
no raised code waits and the sequencer has nothing to select, as after every command (SelectionsAreComplete). -/

open Sys2Proof Sys2Proof.Machine

/-! ### The queue, power and reset -/

/-- The command at the front of the queue is executed on the state with the queue's rest. -/
def Obligations.FrontCommandIsExecuted : Prop :=
  ∀ (c : Instr) (rest : List Instr) (s : State), s.pending = c :: rest → step s = exec c (s.withPending rest)

/-- What reset leaves in every block (R16 and the reset rules of the chapters). -/
def Obligations.ResetValuesAreAsStated : Prop :=
  let s := State.reset
  (s.link.framer = .hunting ∧ s.link.gapTimer = none ∧ s.link.requests = [] ∧ s.link.replies = [] ∧ s.link.notices = [] ∧
    s.link.heartbeat = none ∧ s.limits = none) ∧
  (s.job.state = .idle ∧ s.job.params = none ∧ s.job.reasons = ⟨false, false, false, false⟩ ∧
    (∀ i : CavityId, s.cavity i = none) ∧ s.runOrder = [] ∧ s.sepQueue = []) ∧
  (s.store.free = 2048 ∧ s.store.reroute = none ∧ s.store.separation = none ∧ s.store.pacing = none) ∧
  (s.engine.state = .idle ∧ s.engine.chain = none ∧ s.engine.move = none ∧ s.engine.resume = none ∧
    s.engine.genEn = false ∧ s.engine.energy = 0 ∧ s.engine.commanded = ⟨0, 0⟩ ∧ s.engine.prevStep = 0 ∧
    s.engine.run = 0 ∧ s.engine.reference = none) ∧
  ((∀ k : ClassIx, s.feed[k] = { cap := 100, accel := 10, retract := 20, energy := 4, theta := 2000 }) ∧
    s.feedOverride = 100 ∧ s.genWatch = { timer := some 10, latch := false } ∧
    s.driveWatch = { timer := none, latch := false }) ∧
  ((∀ k : Fin 4, s.profiles[k] = Profile.default) ∧ s.threading.state = .idle ∧ s.threading.wireIn = false ∧
    s.threading.work = none ∧ s.threading.sever = none ∧ s.threading.timer = none ∧ s.threading.restart = none ∧
    s.threading.out = .off) ∧
  (s.recovery.stage = .none ∧ s.recovery.breakPoint = none ∧ s.recovery.resumePoint = none ∧ s.recovery.inKerf = 0 ∧
    s.recovery.closePending = false ∧ s.recovery.startPending = false) ∧
  (s.retention.clamp = .free ∧ s.retention.clampReq = false ∧ s.retention.timer = none) ∧
  (s.maps.active = .a ∧ (∀ c : Code, s.maps.entry .a c = defaultEntry c.val ∧ s.maps.entry .b c = defaultEntry c.val)) ∧
  ((∀ n : Fin 4, s.channels[n] = Channel.default) ∧ (∀ n : Fin 4, s.levels[n] = false) ∧
    s.interlock = { mode := .follow, latched := false }) ∧
  s.log = [] ∧ s.clock = 0

/-- POWER_ON, RESET_N_ASSERT and RESET_N_RELEASE put the part in its power-on state; the straps fix the rate (R1, R16). Without
power, or with RESET_N low, no other command has an effect (R16). That a held part keeps the input levels and the rate, and that
resets keep the queue of commands, is the model's choice (notes/assumptions/31.md, 23.md). -/
def Obligations.PowerEventsResetThePart : Prop :=
  (∀ (s : State) (pins : Pins),
    let begun : State :=
      { State.powerOnState s.pending ⟨true, true⟩ pins (strapRate pins) with genWatch := { timer := some 10, latch := false } }
    exec (.powerOn true pins) s = .next begun ∧
    exec (.powerOn false pins) s = .next (State.powerOnState s.pending ⟨true, false⟩ s.pins s.link.rate) ∧
    exec .resetNAssert s = .next (State.powerOnState s.pending { s.power with resetN := false } s.pins s.link.rate) ∧
    (s.power.resetN = false → s.power.valid = true → exec (.resetNRelease pins) s = .next begun) ∧
    (s.power.resetN = false → s.power.valid = false →
      exec (.resetNRelease pins) s = .next { s with power := { s.power with resetN := true } }) ∧
    (pins.strap2 = false → pins.strap1 = false → begun.link.rate = 115200) ∧
    (pins.strap2 = false → pins.strap1 = true → begun.link.rate = 460800) ∧
    (pins.strap2 = true → pins.strap1 = false → begun.link.rate = 921600) ∧
    (pins.strap2 = true → pins.strap1 = true → begun.link.rate = 2000000)) ∧
  (∀ (c : Instr) (s : State), isPowerEvent c = false → s.operating = false → exec c s = .next s)

/-! ### Link port -/

/-- Every frame of at most 250 payload bytes, received whole or from the bytes gathered on, restarts the heartbeat timer and joins the
request list unless four wait; with another check value it has no effect (R2, R3, R4). That FRAME_RECEIVE carries the bytes not yet
gathered is the model's reading (notes/assumptions/4.md). -/
def Obligations.WholeFrameIsTaken : Prop :=
  ∀ (s : State) (f : Frame), s.operating = true → s.link.resetting = false → f.payload.length ≤ 250 →
    let taken : State :=
      { s with
        link :=
          { s.link with
            framer := .hunting, gapTimer := none
            heartbeat := if s.link.heartbeat.isSome ∧ s.params.heartbeat ≠ 0 then some s.params.heartbeat else none
            requests := if s.link.requests.length < 4 then s.link.requests ++ [f] else s.link.requests } }
    let lost : State := { s with link := { s.link with framer := .hunting, gapTimer := none } }
    (s.link.framer = .hunting →
      exec (.frameReceive f.bytes) s = .next taken ∧
      ∀ crc : BitVec 16, crc ≠ crc16 f.body →
        exec (.frameReceive (0xC3#8 :: (f.body ++ enc16 crc.toNat))) s = .next lost) ∧
    (∀ got rest : List Byte, s.link.framer = .collecting got → rest ≠ [] →
      (f.bytes = 0xC3#8 :: (got ++ rest) → exec (.frameReceive rest) s = .next taken) ∧
      (∀ crc : BitVec 16, crc ≠ crc16 f.body → f.body ++ enc16 crc.toNat = got ++ rest →
        exec (.frameReceive rest) s = .next lost))

/-- One received byte: SYNC starts a frame, any other byte is discarded while HUNTING, a LENGTH above 250 and a failed check drop
the frame, the byte that completes a frame whose check matches restarts the heartbeat timer and puts the frame into the request
list unless four wait, any other byte is gathered; the gap timer's expiry drops the partial frame (R2, R3, R4, R11). That SYNC
starts the gap timer is the model's reading (notes/assumptions/5.md). -/
def Obligations.ReceivedByteMovesFramer : Prop :=
  ∀ (s : State) (b : Byte) (framingError : Bool), s.operating = true → s.link.resetting = false →
    let dropped : State := { s with link := { s.link with framer := .hunting, gapTimer := none } }
    (s.link.framer = .hunting → b = 0xC3#8 →
      exec (.receivedByte b framingError) s =
        .next { s with link := { s.link with framer := .collecting [], gapTimer := some 5 } }) ∧
    (s.link.framer = .hunting → b ≠ 0xC3#8 → exec (.receivedByte b framingError) s = .next s) ∧
    (∀ got : List Byte, s.link.framer = .collecting got →
      let g := got ++ [b]
      let n := byteAt g 0
      (250 < n → exec (.receivedByte b framingError) s = .next dropped) ∧
      (n ≤ 250 → g.length ≠ n + 5 →
        exec (.receivedByte b framingError) s =
          .next { s with link := { s.link with framer := .collecting g, gapTimer := some 5 } }) ∧
      (n ≤ 250 → g.length = n + 5 → crc16 (g.take (n + 3)) ≠ BitVec.ofNat 16 (u16At g (n + 3)) →
        exec (.receivedByte b framingError) s = .next dropped) ∧
      (n ≤ 250 → g.length = n + 5 → crc16 (g.take (n + 3)) = BitVec.ofNat 16 (u16At g (n + 3)) →
        exec (.receivedByte b framingError) s =
          .next
            { s with
              link :=
                { s.link with
                  framer := .hunting, gapTimer := none
                  heartbeat :=
                    if s.link.heartbeat.isSome ∧ s.params.heartbeat ≠ 0 then some s.params.heartbeat else none
                  requests :=
                    if s.link.requests.length < 4 then
                      s.link.requests ++ [{ kind := g.getD 1 0, tag := g.getD 2 0, payload := (g.drop 3).take n }]
                    else s.link.requests } })) ∧
    (s.link.gapTimer.isSome = true → exec .interByteGapExpiry s = .next dropped)

/-- As a frame ends, the oldest reply is sent next, else the notice at the head, else nothing; a PROGRESS notice marks its chain
reported as it leaves (R7, R61). Every notice has TAG 0 and its own KIND and length (R8, chapter 11.5). -/
def Obligations.TransmitterChoosesNextFrame : Prop :=
  (∀ (s : State) (f : Frame), s.operating = true → s.link.sending = some f → s.link.isResetReply f = false →
    (∀ r rest, s.link.replies = r :: rest →
      exec .frameTransmitEnd s = .next { s with link := { s.link with replies := rest, sending := some r } }) ∧
    (s.link.replies = [] → s.link.notices = [] →
      exec .frameTransmitEnd s = .next { s with link := { s.link with sending := none } }) ∧
    (∀ code content rest, s.link.replies = [] → s.link.notices = .event code content :: rest →
      exec .frameTransmitEnd s =
        .next { s with link := { s.link with notices := rest, sending := some (Notice.event code content).frame } }) ∧
    (∀ content rest, s.link.replies = [] → s.link.notices = .progress content :: rest →
      exec .frameTransmitEnd s =
        .next
          (State.markReported
            { s with link := { s.link with notices := rest, sending := some (Notice.progress content).frame } } content))) ∧
  (∀ code content, (Notice.event code content).frame.kind = 0xF0#8 ∧ (Notice.event code content).frame.tag = 0 ∧
    (Notice.event code content).frame.payload.length = 13) ∧
  (∀ content, (Notice.progress content).frame.kind = 0xF1#8 ∧ (Notice.progress content).frame.tag = 0 ∧
    (Notice.progress content).frame.payload.length = 12)

/-- RESET discards the waiting requests and stops the deciding; bytes are lost and no request is decided until its reply has been
sent, and then the part is in its power-on state at the same rate (R15). That its input levels are then those held, and that the
queue of commands stays, is the model's choice (notes/assumptions/26.md, 23.md). -/
def Obligations.ResetRequestRunsToItsReply : Prop :=
  (∀ (s : State) (tag : Byte), s.decides 0x02#8 tag [] = true → s.quiet →
    exec (.reset tag []) s =
      .next
        (State.closed
          { s with
            link :=
              { s.link with
                requests := [], resetting := true
                replies := s.link.replies ++ [{ kind := 0x82#8, tag := tag, payload := [0x00#8] }] } })) ∧
  (∀ (s : State) (tag : Byte), s.operating = true → s.link.resetting = true →
    s.link.sending = some { kind := 0x82#8, tag := tag, payload := [0x00#8] } →
    exec .frameTransmitEnd s =
      .next
        { State.powerOnState s.pending ⟨true, true⟩ s.pins s.link.rate with
          genWatch := { timer := some 10, latch := false } }) ∧
  (∀ (s : State) (b : Byte) (e : Bool), s.link.resetting = true → exec (.receivedByte b e) s = .next s) ∧
  (∀ (s : State) (c : Instr) (kind tag : Byte) (payload : List Byte), s.link.resetting = true →
    c.request = some (kind, tag, payload) → exec c s = .next s)

/-- A KIND outside the catalogue is answered UNKNOWN_KIND, under its own KIND when its top bit is set, and a request of the catalogue
whose length is not permitted BAD_LENGTH; neither changes anything (R4, R6, R179). That the BAD_LENGTH reply to SEG_APPEND carries
no counts is the model's reading (notes/assumptions/24.md). -/
def Obligations.MalformedRequestsAreAnswered : Prop :=
  (∀ (s : State) (kind tag : Byte) (payload : List Byte), isRequestKind kind = false → s.decides kind tag payload = true →
    s.quiet →
    exec (.unknownKindRequest kind tag payload) s = .next (s.replied kind tag .unknownKind []) ∧
    (kind.msb = true → kind ||| 0x80#8 = kind)) ∧
  (∀ (s : State) (c : Instr) (kind tag : Byte) (payload : List Byte), c.request = some (kind, tag, payload) →
    (∀ k t p, c ≠ .unknownKindRequest k t p) → permittedLength kind payload.length = false →
    s.decides kind tag payload = true → s.quiet → exec c s = .next (s.replied kind tag .badLength []))

/-- STATUS is answered OK with a record of 70 bytes, each field of the state at the offset that chapter 11.5 gives it, and changes
nothing else (R17, R177). -/
def Obligations.StatusReportsTheState : Prop :=
  ∀ (s : State) (tag : Byte), s.decides 0x01#8 tag [] = true → s.quiet →
    ∃ d : List Byte, exec (.status tag []) s = .next (s.replied 0x01#8 tag .ok d) ∧ d.length = 70 ∧
      (byteAt d 0 = s.job.state.code ∧
        byteAt d 1 =
          (if s.job.reasons.host then 1 else 0) + (if s.job.reasons.event then 2 else 0) +
            (if s.job.reasons.interlock then 4 else 0) + (if s.job.reasons.linkSilent then 8 else 0)) ∧
      ((∀ i c, s.job.active = some i → s.cavity i = some c → byteAt d 2 = i.val ∧ byteAt d 3 = c.state.code) ∧
        (s.job.active = none → byteAt d 2 = 0xFF ∧ byteAt d 3 = 0xFF)) ∧
      ((∀ i c, s.job.active = some i → s.cavity i = some c → c.state = .separating → byteAt d 4 = 5) ∧
        ((∀ i c, s.job.active = some i → s.cavity i = some c → c.state ≠ .separating) →
          (∀ k : PassIx, s.engine.chain = some (.pass k) → byteAt d 4 = k.val) ∧
            (s.engine.chain = some .reroute → byteAt d 4 = 4) ∧ (s.engine.chain = none → byteAt d 4 = 0xFF))) ∧
      (byteAt d 5 = s.engine.state.code ∧ byteAt d 6 = s.threading.state.code ∧ byteAt d 7 = s.recovery.stage.code) ∧
      ((s.engine.chain ≠ none →
          u32At d 8 = s.engine.p % 2 ^ 32 ∧ u32At d 12 = s.engine.h % 2 ^ 32 ∧ u32At d 16 = s.engine.floor % 2 ^ 32) ∧
        (s.engine.chain = none → u32At d 8 = 0 ∧ u32At d 12 = 0 ∧ u32At d 16 = 0)) ∧
      (-2 ^ 31 ≤ s.engine.commanded.x → s.engine.commanded.x < 2 ^ 31 → s32At d 20 = s.engine.commanded.x) ∧
      (-2 ^ 31 ≤ s.engine.commanded.y → s.engine.commanded.y < 2 ^ 31 → s32At d 24 = s.engine.commanded.y) ∧
      u16At d 28 = s.store.free % 2 ^ 16 ∧
      ((s.retention.clamp = .free → byteAt d 30 = 0 ∧ byteAt d 31 = 0xFF) ∧
        (∀ i, s.retention.clamp = .requested i → byteAt d 30 = 1 ∧ byteAt d 31 = i.val) ∧
        (∀ i, s.retention.clamp = .held i → byteAt d 30 = 2 ∧ byteAt d 31 = i.val)) ∧
      byteAt d 32 = (if s.maps.active = .a then 0 else 1) ∧ u16At d 33 = s.log.length % 2 ^ 16 ∧
      byteAt d 35 =
        (if s.threading.wireIn then 1 else 0) + (if s.pins.interlock then 2 else 0) +
          (if s.interlock.latched then 4 else 0) + (if s.recovery.breakPoint.isSome then 8 else 0) +
          (if s.recovery.resumePoint.isSome then 16 else 0) ∧
      ((∀ b, s.recovery.breakPoint = some b →
          u32At d 36 = b.offset % 2 ^ 32 ∧
            (-2 ^ 31 ≤ b.pos.x → b.pos.x < 2 ^ 31 → s32At d 40 = b.pos.x) ∧
            (-2 ^ 31 ≤ b.pos.y → b.pos.y < 2 ^ 31 → s32At d 44 = b.pos.y)) ∧
        (s.recovery.breakPoint = none → u32At d 36 = 0 ∧ u32At d 40 = 0 ∧ u32At d 44 = 0)) ∧
      ((∀ r, s.recovery.resumePoint = some r →
          u32At d 48 = r.offset % 2 ^ 32 ∧
            (-2 ^ 31 ≤ r.pos.x → r.pos.x < 2 ^ 31 → s32At d 52 = r.pos.x) ∧
            (-2 ^ 31 ≤ r.pos.y → r.pos.y < 2 ^ 31 → s32At d 56 = r.pos.y)) ∧
        (s.recovery.resumePoint = none → u32At d 48 = 0 ∧ u32At d 52 = 0 ∧ u32At d 56 = 0)) ∧
      u32At d 60 = s.clock.toNat ∧
      ((∀ p, s.job.params = some p →
          u16At d 64 = p.retrace % 2 ^ 16 ∧ u16At d 66 = p.drySpeed % 2 ^ 16 ∧ u16At d 68 = p.rapidSpeed % 2 ^ 16) ∧
        (s.job.params = none → u16At d 64 = 0 ∧ u16At d 66 = 0 ∧ u16At d 68 = 0))

/-- LIMITS_SET: authority, then field ranges, then the record with every bounded value lowered to its ceiling (R12, R13, R14). -/
def Obligations.LimitsWriteReclamps : Prop :=
  ∀ (s : State) (service : Bool) (tag : Byte) (payload : List Byte), payload.length = 10 →
    s.decides 0x10#8 tag payload = true → s.quiet →
    let l := parseLimits payload
    let s1 : State := { s with pins := { s.pins with serviceEn := service } }
    let inRange : Prop :=
      (1 ≤ l.feedCeil ∧ l.feedCeil ≤ 400) ∧ (1000 ≤ l.retraceCeil ∧ l.retraceCeil ≤ 50000) ∧ l.jetCeil ≤ 7 ∧
        l.annealCeil ≤ 2000 ∧ (1 ≤ l.rapidCeil ∧ l.rapidCeil ≤ 3000) ∧ (1 ≤ l.attemptCeil ∧ l.attemptCeil ≤ 15)
    (s.limits.isSome = true → service = false →
      exec (.limitsSet service tag payload) s = .next (s1.replied 0x10#8 tag .authority [])) ∧
    (s.limits = none ∨ service = true → ¬ inRange →
      exec (.limitsSet service tag payload) s = .next (s1.replied 0x10#8 tag .badField [])) ∧
    (s.limits = none ∨ service = true → inRange →
      exec (.limitsSet service tag payload) s =
        .next
          (State.replied
            { s1 with
              limits := some l
              feed := s.feed.map fun c => { c with cap := min c.cap l.feedCeil }
              profiles := s.profiles.map fun p =>
                { p with
                  anneal := min p.anneal l.annealCeil, attempts := min p.attempts l.attemptCeil
                  jetBase := min p.jetBase l.jetCeil, kerfJet := min p.kerfJet l.jetCeil }
              job :=
                { s.job with
                  params := s.job.params.map fun p =>
                    { p with
                      retrace := min p.retrace l.retraceCeil, drySpeed := min p.drySpeed l.rapidCeil
                      rapidSpeed := min p.rapidSpeed l.rapidCeil } } }
            0x10#8 tag .ok []))

/-- The GET requests answer with what is stored and change nothing else (R13, R64, R104, R165). -/
def Obligations.GetRequestsAnswerWhatIsStored : Prop :=
  ∀ (s : State) (tag : Byte), s.quiet →
    (s.decides 0x11#8 tag [] = true →
      (∀ l, s.limits = some l → exec (.limitsGet tag []) s = .next (s.replied 0x11#8 tag .ok l.encode)) ∧
      (s.limits = none → exec (.limitsGet tag []) s = .next (s.replied 0x11#8 tag .notConfigured []))) ∧
    ∀ i : Byte,
      (s.decides 0x19#8 tag [i] = true →
        (∀ k : ClassIx, i.toNat = k.val →
          exec (.feedClassGet tag [i]) s = .next (s.replied 0x19#8 tag .ok (s.feed[k]).encode)) ∧
        (8 ≤ i.toNat → exec (.feedClassGet tag [i]) s = .next (s.replied 0x19#8 tag .badField []))) ∧
      (s.decides 0x1B#8 tag [i] = true →
        (∀ k : Fin 4, i.toNat = k.val →
          exec (.threadProfileGet tag [i]) s = .next (s.replied 0x1B#8 tag .ok (s.profiles[k]).encode)) ∧
        (4 ≤ i.toNat → exec (.threadProfileGet tag [i]) s = .next (s.replied 0x1B#8 tag .badField []))) ∧
      (s.decides 0x49#8 tag [i] = true →
        (∀ k : Fin 4, i.toNat = k.val →
          exec (.channelGet tag [i]) s =
            .next
              (s.replied 0x49#8 tag .ok
                (enc16 (s.channels[k]).stored.delay ++ enc16 (s.channels[k]).stored.width ++
                  enc8 (s.channels[k]).stored.polarity.code ++ enc8 (s.channels[k]).state.code))) ∧
        (4 ≤ i.toNat → exec (.channelGet tag [i]) s = .next (s.replied 0x49#8 tag .badField [])))

/-- The expiry of a running heartbeat timer stops it and raises LINK_SILENT: under an entry that only pauses, a RUNNING job is
PAUSED for LINK_SILENT and its blocks suspend; where the entry's actions do nothing to the job, the record and the outputs stand
alone (R11, R21, R157, R158). -/
def Obligations.HeartbeatExpiryPausesTheJob : Prop :=
  ∀ s : State, s.operating = true → s.link.heartbeat.isSome = true → s.quiet →
    let s1 : State := { s with link := { s.link with heartbeat := none } }
    (s.job.state = .running → s.onlyPauses Event.linkSilent = true →
      exec .heartbeatExpiry s =
        .next
          (((State.suspendBlocks
            { s1.noted Event.linkSilent 0 with
              job := { s.job with state := .paused, reasons := { s.job.reasons with linkSilent := true } } }
            ).allOutputActions (s.maps.entry s.maps.active Event.linkSilent)).closed)) ∧
    (s1.inert Event.linkSilent = true → exec .heartbeatExpiry s = .next ((s1.carried Event.linkSilent 0).closed))

/-! ### Feed classes, override, profiles -/

/-- FEED_CLASS_SET stores the five fields, the cap lowered to F_CEIL, and OVERRIDE_SET stores the override; a field out of range
refuses (R64, R65). -/
def Obligations.ServoSettingsAreStored : Prop :=
  (∀ (s : State) (tag : Byte) (payload : List Byte), payload.length = 9 → s.decides 0x18#8 tag payload = true → s.quiet →
    let c := parseFeedClass payload 1
    let inRange : Prop :=
      (1 ≤ c.cap ∧ c.cap ≤ 400) ∧ (1 ≤ c.accel ∧ c.accel ≤ 100) ∧ (1 ≤ c.retract ∧ c.retract ≤ 400) ∧ c.energy ≤ 15 ∧
        c.theta ≤ 2000
    (8 ≤ byteAt payload 0 ∨ ¬ inRange →
      exec (.feedClassSet tag payload) s = .next (s.replied 0x18#8 tag .badField [])) ∧
    (∀ k : ClassIx, byteAt payload 0 = k.val → inRange →
      (∀ l, s.limits = some l → l.feedCeil < c.cap →
        exec (.feedClassSet tag payload) s =
          .next
            (State.replied { s with feed := s.feed.set k.val { c with cap := l.feedCeil } } 0x18#8 tag .okClamped [])) ∧
      ((∀ l, s.limits = some l → c.cap ≤ l.feedCeil) →
        exec (.feedClassSet tag payload) s =
          .next (State.replied { s with feed := s.feed.set k.val c } 0x18#8 tag .ok [])))) ∧
  (∀ (s : State) (tag v : Byte), s.decides 0x1C#8 tag [v] = true → s.quiet →
    (v.toNat ≤ 150 →
      exec (.overrideSet tag [v]) s = .next (State.replied { s with feedOverride := v.toNat } 0x1C#8 tag .ok [v])) ∧
    (150 < v.toNat → exec (.overrideSet tag [v]) s = .next (s.replied 0x1C#8 tag .badField [])))

/-- THREAD_PROFILE_SET replaces the whole profile: four fields lowered to their ceilings, every offset component brought within
2000 of 0; a scalar field out of range refuses (R103, R104). -/
def Obligations.ThreadProfileIsStored : Prop :=
  ∀ (s : State) (tag : Byte) (payload : List Byte) (m : Nat), payload.length = 15 + 4 * m → 1 ≤ m → m ≤ 9 →
    s.decides 0x1A#8 tag payload = true → s.quiet →
    let p := parseProfile payload 1 m
    let inRange : Prop :=
      p.anneal ≤ 2000 ∧ (20 ≤ p.trim ∧ p.trim ≤ 200) ∧ p.jetBase ≤ 7 ∧ p.jetStep ≤ 3 ∧
        (100 ≤ p.passTimeout ∧ p.passTimeout ≤ 8000) ∧ (1 ≤ p.attempts ∧ p.attempts ≤ 15) ∧
        (100 ≤ p.tensionTimeout ∧ p.tensionTimeout ≤ 2000) ∧ (50 ≤ p.withdraw ∧ p.withdraw ≤ 2000) ∧
        p.kerfAttempts ≤ 7 ∧ p.kerfJet ≤ 7
    let bounded : Profile :=
      { p with offsets := p.offsets.map fun o => ⟨max (-2000) (min 2000 o.x), max (-2000) (min 2000 o.y)⟩ }
    (4 ≤ byteAt payload 0 ∨ ¬ inRange →
      exec (.threadProfileSet tag payload) s = .next (s.replied 0x1A#8 tag .badField [])) ∧
    (∀ k : Fin 4, byteAt payload 0 = k.val → inRange →
      (s.limits = none →
        exec (.threadProfileSet tag payload) s =
          .next
            (State.replied { s with profiles := s.profiles.set k.val bounded } 0x1A#8 tag
              (if bounded = p then .ok else .okClamped) [])) ∧
      (∀ l, s.limits = some l →
        let stored : Profile :=
          { bounded with
            anneal := min p.anneal l.annealCeil, attempts := min p.attempts l.attemptCeil
            jetBase := min p.jetBase l.jetCeil, kerfJet := min p.kerfJet l.jetCeil }
        exec (.threadProfileSet tag payload) s =
          .next
            (State.replied { s with profiles := s.profiles.set k.val stored } 0x1A#8 tag
              (if stored = p then .ok else .okClamped) [])))

/-- Every configuration record reads back from its bytes as it was written, wherever it stands after its index byte (R179,
chapter 11.4). -/
def Obligations.RecordsReadBackAsWritten : Prop :=
  (∀ l : Limits, l.valid = true → parseLimits l.encode = l ∧ l.encode.length = 10) ∧
  (∀ (i : Byte) (c : FeedClass), c.valid = true → parseFeedClass (i :: c.encode) 1 = c ∧ c.encode.length = 8) ∧
  (∀ (i : Byte) (p : Profile), p.valid = true →
    (∀ o ∈ p.offsets, -32768 ≤ o.x ∧ o.x ≤ 32767 ∧ -32768 ≤ o.y ∧ o.y ≤ 32767) →
    parseProfile (i :: p.encode) 1 p.offsets.length = p ∧ p.encode.length = 14 + 4 * p.offsets.length) ∧
  (∀ p : JobParams, (1000 ≤ p.retrace ∧ p.retrace ≤ 50000) → (1 ≤ p.drySpeed ∧ p.drySpeed ≤ 2000) →
    (1 ≤ p.rapidSpeed ∧ p.rapidSpeed ≤ 3000) → (100 ≤ p.clampWait ∧ p.clampWait ≤ 10000) →
    (1 ≤ p.breakLimit ∧ p.breakLimit ≤ 15) → (p.heartbeat = 0 ∨ 100 ≤ p.heartbeat ∧ p.heartbeat ≤ 5000) →
    (5 ≤ p.pacing ∧ p.pacing ≤ 1000) → parseJobParams p.encode = some p ∧ p.encode.length = 16)

/-! ### Job table -/

/-- JOB_OPEN in IDLE with the limits written: the parameters, or the defaults for an empty payload, are stored under their
ceilings and the job is LOADING with empty tables; otherwise it is refused (R18, R19, R61). -/
def Obligations.JobOpenStoresParameters : Prop :=
  ∀ (s : State) (tag : Byte) (payload : List Byte), payload.length = 0 ∨ payload.length = 16 →
    s.decides 0x20#8 tag payload = true → s.quiet →
    (s.job.state ≠ .idle → exec (.jobOpen tag payload) s = .next (s.replied 0x20#8 tag .wrongState [])) ∧
    (s.job.state = .idle → s.limits = none →
      exec (.jobOpen tag payload) s = .next (s.replied 0x20#8 tag .notConfigured [])) ∧
    (∀ l, s.job.state = .idle → s.limits = some l →
      (payload.length = 16 → parseJobParams payload = none →
        exec (.jobOpen tag payload) s = .next (s.replied 0x20#8 tag .badField [])) ∧
      (∀ p, (payload.length = 0 ∧ p = JobParams.default) ∨ (payload.length = 16 ∧ parseJobParams payload = some p) →
        let stored : JobParams :=
          { p with
            retrace := min p.retrace l.retraceCeil, drySpeed := min p.drySpeed l.rapidCeil
            rapidSpeed := min p.rapidSpeed l.rapidCeil }
        exec (.jobOpen tag payload) s =
          .next
            (State.replied
              { s with
                job := { state := .loading, params := some stored, reasons := ⟨false, false, false, false⟩, active := none }
                cavities := Vector.replicate 64 none, runOrder := [], sepQueue := []
                store := { s.store with pacing := some stored.pacing } }
              0x20#8 tag (if stored = p then .ok else .okClamped) stored.encode)))

/-- JOB_START: the three tests in order; taken, the job is RUNNING with its heartbeat timer, and the first PLANNED cavity of
the run order is selected (R20, R35). The selection makes it THREADING and starts the rapid move to its hole, or, over the
hole, its first attempt, at ANNEAL or with anneal time 0 at TRIM, after a full SEVER with the wire in (R36, R107, R108). A
selection fills the separation queue under AT_END, takes the queue's head for separation, else the first PLANNED cavity for
cutting, else completes the job with the number of RETAINED cavities; none is made while its conditions do not hold (R34,
R35). -/
def Obligations.JobStartRunsAndSelects : Prop :=
  (∀ (s : State) (tag : Byte), s.decides 0x21#8 tag [] = true → s.quiet →
    (s.job.state ≠ .loading → exec (.jobStart tag []) s = .next (s.replied 0x21#8 tag .wrongState [])) ∧
    (s.job.state = .loading → (∀ i, s.cavityIn i .planned = false) →
      exec (.jobStart tag []) s = .next (s.replied 0x21#8 tag .noCavity [])) ∧
    (s.job.state = .loading → (∃ i, s.cavityIn i .planned = true) → s.pins.interlock = false ∨ s.interlock.latched = true →
      exec (.jobStart tag []) s = .next (s.replied 0x21#8 tag .interlock [])) ∧
    (∀ i, s.job.state = .loading → s.pins.interlock = true → s.interlock.latched = false → s.job.active = none →
      s.engine.state = .idle → s.threading.state ≠ .sever → s.threading.state ≠ .withdraw → s.sepQueue = [] →
      s.runOrder.find? (fun j => s.cavityIn j .planned) = some i →
      let started : State :=
        { s.popRequest with
          job := { s.job with state := .running, reasons := ⟨false, false, false, false⟩ }
          link :=
            { s.popRequest.link with
              heartbeat := if s.params.heartbeat = 0 then none else some s.params.heartbeat } }
      exec (.jobStart tag []) s = .next (((started.pushReply 0x21#8 tag .ok []).selectCutting i).closed))) ∧
  (∀ (s : State) (i : CavityId) (c : Cavity), s.cavity i = some c → s.engine.move = none →
    (s.engine.commanded ≠ c.hole →
      s.selectCutting i =
        { s with
          cavities := s.cavities.set i.val (some { c with state := .threading, attemptsUsed := 0 })
          job := { s.job with active := some i }
          engine :=
            { s.engine with
              state := .rapid, move := some (.rapid s.engine.commanded c.hole 0 .sequencer s.engine.state) } }) ∧
    (s.engine.commanded = c.hole →
      let first : Attempting := { purpose := .cutting, target := c.hole, attempt := 1, cavity := i }
      (s.threading.wireIn = false →
        s.selectCutting i =
          { s with
            cavities := s.cavities.set i.val (some { c with state := .threading, attemptsUsed := 1 })
            job := { s.job with active := some i }
            threading := s.threading.attempting s.profiles[c.profile] first }) ∧
      (s.threading.wireIn = true →
        s.selectCutting i =
          { s with
            cavities := s.cavities.set i.val (some { c with state := .threading, attemptsUsed := 0 })
            job := { s.job with active := some i }
            threading :=
              Threading.severing { s.threading with work := some first } s.profiles[c.profile] .full .preThread i }))) ∧
  (∀ s : State,
    let planned := s.runOrder.find? fun j => s.cavityIn j .planned
    let waits (j : CavityId) : Bool :=
      match s.cavity j with
      | some c => decide (c.state = .retained) && !c.sepSelected && !s.sepQueue.contains j
      | none => false
    let queue : List CavityId :=
      if s.params.separationPolicy = .atEnd ∧ planned = none ∧ s.job.active = none then s.sepQueue ++ s.runOrder.filter waits
      else s.sepQueue
    let complete : State :=
      { s with
        job := { s.job with state := .complete, reasons := ⟨false, false, false, false⟩ }
        link := { s.link with heartbeat := none } }
    let retained := (s.cavities.toList.filter fun o => match o with
      | some c => decide (c.state = .retained)
      | none => false).length
    (∀ i rest, queue = i :: rest → s.select = State.selectSeparation { s with sepQueue := rest } i) ∧
    (∀ i, queue = [] → planned = some i → s.select = s.selectCutting i) ∧
    (queue = [] → planned = none → s.select = complete.raiseFor none Event.jobComplete retained) ∧
    (∀ atReport : Bool, s.raised = [] →
      let closing (t : State) : State := (t.refreshGen atReport).startTransmit
      let free : Prop :=
        s.job.state = .running ∧ s.job.active = none ∧ s.engine.state = .idle ∧ s.threading.state ≠ .sever ∧
          s.threading.state ≠ .withdraw
      (¬ free → s.finish atReport = closing s) ∧
      (free → queue = [] → planned = none → complete.inert Event.jobComplete = true →
        s.finish atReport = closing (complete.carried Event.jobComplete retained)) ∧
      (free → s.engine.move = none →
        (∀ (i : CavityId) (c : Cavity), queue = [] → planned = some i → s.cavity i = some c → s.engine.commanded ≠ c.hole →
          s.finish atReport = closing (s.selectCutting i)) ∧
        (∀ (i : CavityId) (c : Cavity) (g : Segment) (rest : List CavityId), queue = i :: rest → s.cavity i = some c →
          s.store.separation = none → c.bridge.getLast? = some g →
          g.stop = (match c.leadIn.getLast? with
            | some l => l.stop
            | none => c.hole) →
          s.engine.commanded ≠ c.hole →
          s.finish atReport = closing (State.selectSeparation { s with sepQueue := rest } i)))))

/-- JOB_PAUSE adds HOST: a RUNNING job is PAUSED, its heartbeat and clamp wait timers stop, an engine in motion or waiting suspends
and the threading unit suspends; PAUSED takes the reason alone; any other state refuses (R21, R99, R118, R146). -/
def Obligations.JobPauseSuspendsTheBlocks : Prop :=
  (∀ (s : State) (tag : Byte), s.decides 0x22#8 tag [] = true → s.quiet →
    (s.job.state = .running →
      exec (.jobPause tag []) s =
        .next
          (State.replied
            { s with
              job := { s.job with state := .paused, reasons := { s.job.reasons with host := true } }
              link := { s.link with heartbeat := none }
              engine :=
                (if s.engine.state ∈ [.cutting, .starved, .rapid, .clampWait] then
                  { s.engine with state := .paused, resume := some s.engine.state }
                else s.engine)
              threading := s.threading.suspend
              retention := { s.retention with timer := none } }
            0x22#8 tag .ok [])) ∧
    (s.job.state = .paused →
      exec (.jobPause tag []) s =
        .next (State.replied { s with job := { s.job with reasons := { s.job.reasons with host := true } } } 0x22#8 tag .ok [])) ∧
    (s.job.state ≠ .running → s.job.state ≠ .paused →
      exec (.jobPause tag []) s = .next (s.replied 0x22#8 tag .wrongState []))) ∧
  (∀ t : Threading, t.restart = none →
    (t.state ∈ [.anneal, .trim, .position, .jet, .tension] →
      t.suspend = { t with out := .off, timer := none, homeWait := false, restart := some .attempt }) ∧
    (t.state = .withdraw → t.suspend = { t with out := .off, timer := none, homeWait := false, restart := some .withdraw }) ∧
    (∀ v, t.state = .sever → t.sever = some v →
      t.suspend =
        { t with
          out := .off, timer := none, homeWait := false
          restart := if v.phase = .withdraw then some .severWithdraw else some .cutPhase }) ∧
    (t.state ∈ [.threaded, .idle, .failed] → t.suspend = t)) ∧
  (∀ t : Threading, t.restart ≠ none → t.suspend = t)

/-- JOB_RESUME: OK without change in RUNNING, INTERLOCK while that reason stands, WRONG_STATE where there is no pause; otherwise
the job is RUNNING again and its blocks restart. A threading unit with its restart mark begins again at its restart point: the same
attempt from ANNEAL, or from TRIM with anneal time 0, the whole withdraw, the whole pulse or the whole withdraw phase of its SEVER;
a SEVER or WITHDRAW asked for in the pause begins (R108, R119). An engine PAUSED leaves for its resume state with previous step 0, run 0 and no
reference whichever that state is: CUTTING, STARVED, RAPID with its move, CLAMP_WAIT with the whole wait or with the clamp
confirmed at once; a last pass completed in the pause out of STARVED goes on to its SEVER. Work that waits for the return begins:
the stub SEVER, the move to the hole, the reroute chain, the restore (R22, R66, R101, R119, R135, R146). That P, H and floor are
stored as 0 without a chain is the model's choice (notes/assumptions/18.md). -/
def Obligations.JobResumeRestartsTheBlocks : Prop :=
  (∀ s : State,
    let t : Threading := { s.threading with restart := none }
    let unit (u : Threading) : State := { s with threading := u }
    (s.threading.restart = none → s.threadingRestart = s) ∧
    (s.threading.restart = some .attempt →
      (s.threading.work = none → s.threadingRestart = unit t) ∧
      (∀ w, s.threading.work = some w → s.threadingRestart = unit (t.attempting (s.profileOf w.cavity) w))) ∧
    (s.threading.restart = some .withdraw →
      (s.threading.withdraw = none → s.threadingRestart = unit t) ∧
      (∀ w, s.threading.withdraw = some w → s.threadingRestart = unit (t.withdrawing (s.profileOf w.cavity) w))) ∧
    (s.threading.restart = some .cutPhase →
      (s.threading.sever = none → s.threadingRestart = unit t) ∧
      (∀ v, s.threading.sever = some v → s.threadingRestart = unit (t.cuttingOff (s.profileOf v.cavity) v))) ∧
    (s.threading.restart = some .severWithdraw →
      (s.threading.sever = none → s.threadingRestart = unit t) ∧
      (∀ v, s.threading.sever = some v →
        s.threadingRestart =
          unit
            { t with
              state := .sever, sever := some { v with phase := .withdraw }, timer := some (s.profileOf v.cavity).withdraw
              out := { ThreadOut.off with feedRev := true } })) ∧
    (s.threading.deferred = none → s.startDeferred = s) ∧
    (∀ k, s.threading.deferred = some (.sever k) →
      s.startDeferred = unit (Threading.severing { t with deferred := none } (s.profileOf k) .full .machine k)) ∧
    (∀ k, s.threading.deferred = some (.withdraw k) →
      s.startDeferred =
        unit (Threading.withdrawing { t with deferred := none } (s.profileOf k) { next := .idle, cavity := k }))) ∧
  (∀ (s : State) (tag : Byte) (e : Engine), s.decides 0x23#8 tag [] = true → s.quiet → s.job.state = .paused →
    s.job.reasons.interlock = false → s.recovery.startPending = false →
    (s.engine.state ≠ .paused ∧ e = s.engine) ∨
      (s.engine.state = .paused ∧ s.engine.resume = some .rapid ∧
        e = { s.engine with state := .rapid, resume := none, prevStep := 0, run := 0, reference := none }) →
    let resumes (t : Threading) : Prop :=
      exec (.jobResume tag []) s =
        .next
          (State.replied
            { s with
              job := { s.job with state := .running, reasons := ⟨false, false, false, false⟩ }
              link := { s.link with heartbeat := if s.params.heartbeat = 0 then none else some s.params.heartbeat }
              engine := e, threading := t }
            0x23#8 tag .ok [])
    let t : Threading := { s.threading with restart := none }
    (s.threading.deferred = none →
      (∀ w, s.threading.restart = some .attempt → s.threading.work = some w → s.job.active = some w.cavity →
        resumes (t.attempting (s.profileOf w.cavity) w)) ∧
      (∀ w, s.threading.restart = some .withdraw → s.threading.withdraw = some w →
        resumes (t.withdrawing (s.profileOf w.cavity) w)) ∧
      (∀ v, s.threading.restart = some .cutPhase → s.threading.sever = some v →
        resumes (t.cuttingOff (s.profileOf v.cavity) v)) ∧
      (∀ v, s.threading.restart = some .severWithdraw → s.threading.sever = some v →
        resumes
          { t with
            state := .sever, sever := some { v with phase := .withdraw }, timer := some (s.profileOf v.cavity).withdraw
            out := { ThreadOut.off with feedRev := true } })) ∧
    (s.threading.restart = none ∨ (s.threading.restart = some .attempt ∧ s.threading.work = none) →
      (∀ k, s.threading.deferred = some (.sever k) →
        resumes (Threading.severing { t with deferred := none } (s.profileOf k) .full .machine k)) ∧
      (∀ k, s.threading.deferred = some (.withdraw k) →
        resumes (Threading.withdrawing { t with deferred := none } (s.profileOf k) { next := .idle, cavity := k })))) ∧
  (∀ (s : State) (tag : Byte), s.decides 0x23#8 tag [] = true → s.quiet →
    (s.job.state = .running → exec (.jobResume tag []) s = .next (s.replied 0x23#8 tag .ok [])) ∧
    (s.job.state = .paused → s.job.reasons.interlock = true →
      exec (.jobResume tag []) s = .next (s.replied 0x23#8 tag .interlock [])) ∧
    (s.job.state ∈ [.idle, .loading, .halted, .complete] →
      exec (.jobResume tag []) s = .next (s.replied 0x23#8 tag .wrongState [])) ∧
    (s.job.state = .paused → s.job.reasons.interlock = false →
      exec (.jobResume tag []) s = .next ((s.popRequest.resumeJob.pushReply 0x23#8 tag .ok []).finish false)) ∧
    (s.job.state = .paused → s.job.reasons.interlock = false → s.engine.state = .paused → s.engine.resume = some .cutting →
      s.completedInPause = none → s.atHold = false → s.threading.restart = none → s.threading.deferred = none →
      s.recovery.startPending = false →
      exec (.jobResume tag []) s =
        .next
          (State.replied
            { s with
              job := { s.job with state := .running, reasons := ⟨false, false, false, false⟩ }
              link := { s.link with heartbeat := if s.params.heartbeat = 0 then none else some s.params.heartbeat }
              engine := { s.engine with state := .cutting, resume := none, prevStep := 0, run := 0, reference := none } }
            0x23#8 tag .ok [])) ∧
    (s.job.state = .paused → s.job.reasons.interlock = false → s.threading.restart = none → s.threading.deferred = none →
      let resumed (e : Engine) : State :=
        { s with
          job := { s.job with state := .running, reasons := ⟨false, false, false, false⟩ }
          link := { s.link with heartbeat := if s.params.heartbeat = 0 then none else some s.params.heartbeat }
          engine := e }
      let back (st : EngineState) : Engine :=
        { s.engine with state := st, resume := none, prevStep := 0, run := 0, reference := none }
      (s.engine.state = .paused → s.recovery.startPending = false →
        (s.engine.resume = some .rapid →
          exec (.jobResume tag []) s = .next (State.replied (resumed (back .rapid)) 0x23#8 tag .ok [])) ∧
        (s.engine.resume = some .starved → s.completedInPause = none →
          exec (.jobResume tag []) s = .next (State.replied (resumed (back .starved)) 0x23#8 tag .ok [])) ∧
        (∀ (i : CavityId) (c : Cavity) (k : PassIx), s.engine.resume = some .starved → s.job.active = some i →
          s.cavity i = some c → s.engine.chain = some (.pass k) → (c.passes[k]).state = .complete → c.passCount ≤ k.val + 1 →
          exec (.jobResume tag []) s =
            .next
              (State.replied
                { resumed { back .idle with chain := none, p := 0, h := 0, floor := 0, move := none } with
                  threading :=
                    { s.threading with
                      state := .sever, wireIn := false, withdraw := none, restart := none
                      sever := some { form := .full, phase := .pulse, purpose := .lastPass, cavity := i }
                      timer := some (s.profileOf i).trim, out := { ThreadOut.off with cutter := true } } }
                0x23#8 tag .ok [])) ∧
        (∀ i : CavityId, s.engine.resume = some .clampWait → s.retention.clamp = .requested i →
          (s.pins.clampSense = false →
            exec (.jobResume tag []) s =
              .next
                (State.replied
                  { resumed (back .clampWait) with retention := { s.retention with timer := some s.params.clampWait } }
                  0x23#8 tag .ok [])) ∧
          (∀ c, s.pins.clampSense = true → s.cavity i = some c →
            exec (.jobResume tag []) s =
              .next
                (State.replied
                  { resumed (back .cutting) with
                    retention := { s.retention with clamp := .held i, timer := none }
                    cavities := s.cavities.set i.val (some { c with effective := some .clamp }) }
                  0x23#8 tag .ok [])))) ∧
      (s.engine.state = .broken → s.recovery.startPending = true →
        let started (work : State → State) : Host.Outcome State Fault Refusal :=
          .next
            (((work
              (State.popRequest { resumed s.engine with recovery := { s.recovery with startPending := false } })).pushReply
                0x23#8 tag .ok []).finish false)
        (∀ i : CavityId, s.recovery.stage = .stubCut → s.job.active = some i →
          exec (.jobResume tag []) s =
            .next
              (State.replied
                { resumed s.engine with
                  recovery := { s.recovery with startPending := false }
                  threading :=
                    { s.threading with
                      state := .sever, wireIn := false, withdraw := none, restart := none
                      sever := some { form := .stub, phase := .pulse, purpose := .stubCut, cavity := i }
                      timer := some (s.profileOf i).trim, out := { ThreadOut.off with cutter := true } } }
                0x23#8 tag .ok [])) ∧
        (∀ i : CavityId, s.recovery.stage = .toHole → s.job.active = some i → s.engine.move = none →
          s.engine.commanded ≠ s.holeOf i →
          exec (.jobResume tag []) s =
            .next
              (State.replied
                { resumed
                    { s.engine with
                      state := .rapid, move := some (.rapid s.engine.commanded (s.holeOf i) 0 .toHole .broken) } with
                  recovery := { s.recovery with startPending := false } }
                0x23#8 tag .ok [])) ∧
        (s.recovery.stage = .reroute → exec (.jobResume tag []) s = started State.startReroute) ∧
        (s.recovery.stage = .resuming → exec (.jobResume tag []) s = started State.beginResuming))))

/-- JOB_ABORT halts a RUNNING or PAUSED job: the active cavity is FAULTED with ABORT unless a reason stands and its slots are free,
engine, threading unit and recovery unit stop, WIRE_IN and a HELD clamp stay, a requested clamp is FREE, the heartbeat timer stops,
and settings, log and clock stay; any other state refuses (R10, R23, R27, R102, R120). Whether a queued PROGRESS notice of the
cavity's reroute or separation chain stays (R16) or is dropped (R59, R61; notes/assumptions/25.md) is a free value
(notes/assumptions/36.md); the rest of the link port stays (R16). -/
def Obligations.JobAbortHaltsTheJob : Prop :=
  ∀ (s : State) (tag : Byte), s.decides 0x24#8 tag [] = true → s.raised = [] →
    (s.job.state ≠ .running → s.job.state ≠ .paused → exec (.jobAbort tag []) s = .next (s.replied 0x24#8 tag .wrongState [])) ∧
    (s.job.state = .running ∨ s.job.state = .paused →
      ∃ t : State, exec (.jobAbort tag []) s = .next (t.replied 0x24#8 tag .ok []) ∧
        t.job.state = .halted ∧ t.job.reasons = ⟨false, false, false, false⟩ ∧ t.job.active = none ∧
        t.job.params = s.job.params ∧
        (∀ i c, s.job.active = some i → s.cavity i = some c →
          ∃ d, t.cavity i = some d ∧ d.state = .faulted ∧ d.fault = (c.fault <|> some .abort) ∧ d.slots = 0 ∧
            d.effective = c.effective ∧ d.breakCount = c.breakCount) ∧
        (∀ j, s.job.active ≠ some j → t.cavity j = s.cavity j) ∧
        (t.engine.state = .idle ∧ t.engine.chain = none ∧ t.engine.move = none ∧ t.engine.resume = none ∧
          t.engine.commanded = s.engine.commanded) ∧
        (t.threading.state = .idle ∧ t.threading.out = .off ∧ t.threading.timer = none ∧ t.threading.work = none ∧
          t.threading.sever = none ∧ t.threading.restart = none ∧ t.threading.wireIn = s.threading.wireIn) ∧
        t.recovery = .idle ∧
        (∀ i, s.retention.clamp = .held i → t.retention = s.retention) ∧
        (∀ i, s.retention.clamp = .requested i → t.retention = { clamp := .free, clampReq := false, timer := none }) ∧
        t.link =
          { s.link with
            heartbeat := none
            notices := match s.job.active with
              | some i =>
                if (s.cavity i).isSome = true ∧ Config.haltKeepsNotices = false then s.withoutReportsOf i s.link.notices
                else s.link.notices
              | none => s.link.notices } ∧
        t.runOrder = s.runOrder ∧ t.limits = s.limits ∧ t.feed = s.feed ∧
        t.feedOverride = s.feedOverride ∧ t.profiles = s.profiles ∧ t.maps = s.maps ∧ t.interlock = s.interlock ∧
        t.channels = s.channels ∧ t.levels = s.levels ∧ t.log = s.log ∧ t.clock = s.clock)

/-- JOB_CLEAR: refused in IDLE, RUNNING and PAUSED and while the clamp is not FREE; taken, the job is IDLE, its tables are empty
and 2048 slots are free, and all that R24 names stays. -/
def Obligations.JobClearEmptiesTheJob : Prop :=
  ∀ (s : State) (tag : Byte), s.decides 0x25#8 tag [] = true → s.quiet →
    (s.job.state ∈ [.idle, .running, .paused] → exec (.jobClear tag []) s = .next (s.replied 0x25#8 tag .wrongState [])) ∧
    (s.job.state ∈ [.loading, .complete, .halted] → s.retention.clamp ≠ .free →
      exec (.jobClear tag []) s = .next (s.replied 0x25#8 tag .clampHeld [])) ∧
    (s.job.state ∈ [.loading, .complete, .halted] → s.retention.clamp = .free →
      exec (.jobClear tag []) s =
        .next
          (State.replied
            { s with
              job := { state := .idle, params := none, reasons := ⟨false, false, false, false⟩, active := none }
              cavities := Vector.replicate 64 none, runOrder := [], sepQueue := []
              store := { s.store with free := 2048, reroute := none, separation := none, pacing := none }
              engine := { s.engine with prevStep := 0, run := 0, reference := none }
              threading :=
                { s.threading with state := if s.threading.state = .failed then .idle else s.threading.state } }
            0x25#8 tag .ok []))

/-- CAVITY_PLAN: the five tests in order; taken, the record stands in the table as R25 gives it and its id ends the run order. -/
def Obligations.CavityPlanAddsARecord : Prop :=
  ∀ (s : State) (tag : Byte) (payload : List Byte), payload.length = 17 → s.decides 0x28#8 tag payload = true → s.quiet →
    let open_ : Prop := s.job.state ∈ [.loading, .running, .paused]
    let inRange : Prop :=
      byteAt payload 0 ≤ 63 ∧ byteAt payload 13 ≤ 3 ∧ byteAt payload 14 ≤ 2 ∧ 1 ≤ byteAt payload 15 ∧
        byteAt payload 15 ≤ 4 ∧ byteAt payload 16 ≤ 7
    let hole : Point := ⟨s32At payload 5, s32At payload 9⟩
    let onPlane : Prop :=
      -8388608 ≤ hole.x ∧ hole.x ≤ 8388607 ∧ -8388608 ≤ hole.y ∧ hole.y ≤ 8388607
    (¬ open_ → exec (.cavityPlan tag payload) s = .next (s.replied 0x28#8 tag .wrongState [])) ∧
    (open_ → ¬ inRange → exec (.cavityPlan tag payload) s = .next (s.replied 0x28#8 tag .badField [])) ∧
    (open_ → inRange → ¬ onPlane → exec (.cavityPlan tag payload) s = .next (s.replied 0x28#8 tag .geometry [])) ∧
    (open_ → inRange → onPlane → (∀ i, (s.cavity i).isSome = true) →
      exec (.cavityPlan tag payload) s = .next (s.replied 0x28#8 tag .tableFull [])) ∧
    (∀ i : CavityId, open_ → inRange → onPlane → (∃ j, s.cavity j = none) → byteAt payload 0 = i.val →
      ((s.cavity i).isSome = true → exec (.cavityPlan tag payload) s = .next (s.replied 0x28#8 tag .idInUse [])) ∧
      (s.cavity i = none →
        ∃ c : Cavity,
          exec (.cavityPlan tag payload) s =
            .next
              (State.replied
                { s with
                  cavities := s.cavities.set i.val (some c), runOrder := s.runOrder ++ [i]
                  store := { s.store with nextSerial := s.store.nextSerial + 4 } }
                0x28#8 tag .ok []) ∧
          c.tag.toNat = u32At payload 1 ∧ c.hole = hole ∧ c.profile.val = byteAt payload 13 ∧
          methodOf (byteAt payload 14) = some c.planned ∧ c.passCount = byteAt payload 15 ∧
          c.sepClass.val = byteAt payload 16 ∧ c.effective = none ∧ c.state = .planned ∧ c.currentPass = 0 ∧
          c.breakCount = 0 ∧ c.attemptsUsed = 0 ∧ c.fault = none ∧ c.bridgeLength = none ∧ c.sepSelected = false ∧
          c.leadIn = [] ∧ c.bridge = [] ∧
          ∀ k : PassIx,
            (c.passes[k]).state = .notStarted ∧ (c.passes[k]).savedP = 0 ∧ (c.passes[k]).savedH = 0 ∧
              (c.passes[k]).chain = Chain.new (s.store.nextSerial + k.val)))

/-- CAVITY_MOVE: refused for an id without a record or a cavity not PLANNED; taken, the id stands at the new index among the rest,
or at the end, and the others keep their order (R30). -/
def Obligations.CavityMoveReorders : Prop :=
  (∀ (s : State) (tag i n : Byte), s.decides 0x29#8 tag [i, n] = true → s.quiet →
    ((∀ k : CavityId, i.toNat = k.val → s.cavity k = none) →
      exec (.cavityMove tag [i, n]) s = .next (s.replied 0x29#8 tag .noCavity [])) ∧
    (∀ (k : CavityId) (c : Cavity), i.toNat = k.val → s.cavity k = some c →
      (c.state ≠ .planned → exec (.cavityMove tag [i, n]) s = .next (s.replied 0x29#8 tag .wrongState [])) ∧
      (c.state = .planned →
        exec (.cavityMove tag [i, n]) s =
          .next (State.replied { s with runOrder := moveTo k n.toNat s.runOrder } 0x29#8 tag .ok [])))) ∧
  (∀ (k : CavityId) (n : Nat) (order : List CavityId),
    let rest := order.filter fun j => decide (j ≠ k)
    (moveTo k n order).filter (fun j => decide (j ≠ k)) = rest ∧
    (n ≤ rest.length → (moveTo k n order)[n]? = some k) ∧
    (rest.length ≤ n → moveTo k n order = rest ++ [k]))

/-- CAVITY_ABANDON: NO_CAVITY without a record, WRONG_STATE in a final state; a PLANNED cavity is SKIPPED and leaves the run order,
a RETAINED one is FAULTED and leaves the separation queue; either frees every slot it holds, and a queued PROGRESS notice of a
reroute or separation chain of its own is dropped (R27, R31, R59, R61; notes/assumptions/25.md). -/
def Obligations.AbandonEndsWaitingCavity : Prop :=
  ∀ (s : State) (tag i : Byte), s.decides 0x2A#8 tag [i] = true → s.quiet →
    ((∀ k : CavityId, i.toNat = k.val → s.cavity k = none) →
      exec (.cavityAbandon tag [i]) s = .next (s.replied 0x2A#8 tag .noCavity [])) ∧
    (∀ (k : CavityId) (c : Cavity), i.toNat = k.val → s.cavity k = some c →
      (c.state ∈ [.done, .faulted, .skipped] →
        exec (.cavityAbandon tag [i]) s = .next (s.replied 0x2A#8 tag .wrongState [])) ∧
      (c.state = .planned ∨ c.state = .retained → s.job.active ≠ some k →
        ∃ (t : State) (d : Cavity), exec (.cavityAbandon tag [i]) s = .next (t.replied 0x2A#8 tag .ok []) ∧
          t.cavity k = some d ∧ d.slots = 0 ∧ d.tag = c.tag ∧ d.hole = c.hole ∧ d.effective = c.effective ∧
          (c.state = .planned → d.state = .skipped ∧ d.fault = c.fault ∧ t.retention = s.retention ∧
            t.runOrder = s.runOrder.filter (fun j => decide (j ≠ k))) ∧
          (c.state = .retained → d.state = .faulted ∧ d.fault = (c.fault <|> some .hostAbandon) ∧ t.runOrder = s.runOrder ∧
            (s.retention.clamp ≠ .requested k → t.retention = s.retention)) ∧
          (∀ j, j ≠ k → t.cavity j = s.cavity j) ∧ t.sepQueue = s.sepQueue.filter (fun j => decide (j ≠ k)) ∧
          t.store.free = s.store.free + c.slots + ownedSlots s.store.reroute k + ownedSlots s.store.separation k ∧
          t.job = s.job ∧ t.engine = s.engine ∧ t.threading = s.threading ∧ t.recovery = s.recovery ∧
          t.link = { s.link with notices := s.withoutReportsOf k s.link.notices } ∧ t.sameSettings s))

/-- CAVITY_ABANDON of the active cavity: it is FAULTED for HOST_ABANDON with its slots free, engine and recovery unit stop, its
clamp request falls, a SEVER in progress goes on, a wire in the guides is severed and a fed wire withdrawn, at once or, in
PAUSED, when the job resumes; otherwise the unit stops (R32, R120). A queued PROGRESS notice of its reroute or separation chain is
dropped (R59, R61; notes/assumptions/25.md). What the threading state shows while the SEVER or WITHDRAW waits
in PAUSED, attempts used 0, and P, H and floor 0 are the model's choice (notes/assumptions/16.md, 27.md, 18.md). -/
def Obligations.AbandonEndsActiveCavity : Prop :=
  ∀ (s : State) (tag i : Byte) (k : CavityId) (c : Cavity), s.decides 0x2A#8 tag [i] = true → i.toNat = k.val →
    s.cavity k = some c → c.state.isActive = true → s.job.active = some k →
    ∃ (t : State) (d : Cavity),
      exec (.cavityAbandon tag [i]) s = .next ((t.popRequest.pushReply 0x2A#8 tag .ok []).finish false) ∧
      t.cavity k = some d ∧ d.state = .faulted ∧ d.fault = (c.fault <|> some .hostAbandon) ∧ d.attemptsUsed = 0 ∧ d.slots = 0 ∧
      (∀ j, j ≠ k → t.cavity j = s.cavity j) ∧ t.runOrder = s.runOrder ∧
      t.store.free = s.store.free + c.slots + ownedSlots s.store.reroute k + ownedSlots s.store.separation k ∧
      t.job = { s.job with active := none } ∧ t.recovery = .idle ∧
      t.engine =
        { s.engine with state := .idle, chain := none, p := 0, h := 0, floor := 0, move := none, resume := none } ∧
      t.retention =
        (if s.retention.clamp = .requested k then { clamp := .free, clampReq := false, timer := none } else s.retention) ∧
      (s.threading.state = .sever →
        t.threading =
          { s.threading with work := none, sever := s.threading.sever.map fun v => { v with purpose := .machine } }) ∧
      (s.threading.state ≠ .sever → s.threading.wireIn = true → s.job.state = .paused →
        t.threading = { s.threading with work := none, deferred := some (.sever k) }) ∧
      (s.threading.state ≠ .sever → s.threading.wireIn = true → s.job.state ≠ .paused →
        t.threading =
          { s.threading with
            state := .sever, wireIn := false, work := none, withdraw := none, restart := none
            sever := some { form := .full, phase := .pulse, purpose := .machine, cavity := k }
            timer := some (s.profiles[c.profile]).trim, out := { ThreadOut.off with cutter := true } }) ∧
      (s.threading.state ∈ [.jet, .tension] → s.threading.wireIn = false → s.job.state = .paused →
        t.threading = { s.threading with work := none, restart := none, deferred := some (.withdraw k) }) ∧
      (s.threading.state ∈ [.jet, .tension] → s.threading.wireIn = false → s.job.state ≠ .paused →
        t.threading =
          { s.threading with
            state := .withdraw, work := none, withdraw := some { next := .idle, cavity := k }
            timer := some (s.profiles[c.profile]).withdraw, out := { ThreadOut.off with feedRev := true } }) ∧
      (s.threading.state ∉ [.sever, .jet, .tension] → s.threading.wireIn = false →
        t.threading =
          { s.threading with
            state := .idle, work := none, homeWait := false, sever := none, withdraw := none, timer := none, restart := none
            deferred := none, out := .off }) ∧
      t.link = { s.link with notices := s.withoutReportsOf k s.link.notices } ∧ t.sameSettings s

/-- CAVITY_QUERY answers with the cavity's record of 116 bytes, every field where chapter 11.5 has it, in which the pass of the active
chain stands with the present P and H and every other pass with the saved ones, and changes nothing else (R25, R178, R181). -/
def Obligations.CavityQueryReports : Prop :=
  ∀ (s : State) (tag i : Byte), s.decides 0x2B#8 tag [i] = true → s.quiet →
    (64 ≤ i.toNat → exec (.cavityQuery tag [i]) s = .next (s.replied 0x2B#8 tag .badField [])) ∧
    (∀ k : CavityId, i.toNat = k.val →
      (s.cavity k = none → exec (.cavityQuery tag [i]) s = .next (s.replied 0x2B#8 tag .noCavity [])) ∧
      (∀ c, s.cavity k = some c →
        let methodCode : Method → Nat := fun m => match m with
          | .none => 0
          | .bridge => 1
          | .clamp => 2
        let stateCode : Nat := match c.state with
          | .planned => 0
          | .threading => 1
          | .cutting => 2
          | .breakRecovery => 3
          | .retained => 4
          | .separating => 5
          | .done => 6
          | .faulted => 7
          | .skipped => 8
        let faultCode : Nat := match c.fault with
          | some .threadExhausted => 1
          | some .breakLimit => 2
          | some .hostAbandon => 3
          | some .abort => 4
          | some .halted => 5
          | some .separationBreak => 6
          | some .geometry => 7
          | none => 0xFF
        ∃ data : List Byte, exec (.cavityQuery tag [i]) s = .next (s.replied 0x2B#8 tag .ok data) ∧ data.length = 116 ∧
          (byteAt data 0 = k.val ∧ u32At data 1 = c.tag.toNat ∧
            (c.hole.inRange = true → s32At data 5 = c.hole.x ∧ s32At data 9 = c.hole.y) ∧ byteAt data 13 = c.profile.val ∧
            byteAt data 14 = methodCode c.planned ∧
            byteAt data 15 = (match c.effective with
              | some m => methodCode m
              | none => 0xFF) ∧
            byteAt data 16 = c.passCount % 256 ∧ byteAt data 17 = c.sepClass.val ∧ byteAt data 18 = stateCode ∧
            byteAt data 19 = c.currentPass.val ∧ byteAt data 20 = c.breakCount % 256 ∧
            byteAt data 21 = c.attemptsUsed % 256 ∧ byteAt data 22 = faultCode ∧
            u32At data 23 = (match c.bridgeLength with
              | some n => n % 2 ^ 32
              | none => 0xFFFFFFFF) ∧
            byteAt data 27 = (if c.sepSelected = true then 1 else 0)) ∧
          ∀ p : PassIx,
            let at_ := 28 + 22 * p.val
            let q := c.passes[p]
            let present : Prop := s.job.active = some k ∧ s.engine.chain = some (.pass p)
            byteAt data at_ =
              (match q.state with
                | .notStarted => 0
                | .active => 1
                | .atHold => 2
                | .complete => 3) ∧
            byteAt data (at_ + 1) =
              (if q.chain.closed = true then 1 else 0) + (if q.chain.holdOffset.isSome = true then 2 else 0) ∧
            u32At data (at_ + 2) = q.chain.appended % 2 ^ 32 ∧
            u32At data (at_ + 6) = (match q.chain.holdOffset with
              | some o => o % 2 ^ 32
              | none => 0) ∧
            (present →
              u32At data (at_ + 10) = s.engine.p % 2 ^ 32 ∧ u32At data (at_ + 14) = s.engine.h % 2 ^ 32) ∧
            (¬ present → u32At data (at_ + 10) = q.savedP % 2 ^ 32 ∧ u32At data (at_ + 14) = q.savedH % 2 ^ 32) ∧
            u32At data (at_ + 18) = q.chain.retired % 2 ^ 32))

/-- SEPARATE queues a RETAINED cavity once, and in COMPLETE, unless the interlock bars it, the job runs again; SLUG_RELEASE frees a
clamp that is HELD for the cavity named (R33, R138, R149). -/
def Obligations.SeparateAndReleaseWork : Prop :=
  (∀ (s : State) (tag i : Byte), s.decides 0x38#8 tag [i] = true → s.quiet →
    (s.job.state ∈ [.idle, .loading, .halted] →
      exec (.separate tag [i]) s = .next (s.replied 0x38#8 tag .wrongState [])) ∧
    (s.job.state ∈ [.running, .paused, .complete] →
      ((∀ k : CavityId, i.toNat = k.val → s.cavity k = none) →
        exec (.separate tag [i]) s = .next (s.replied 0x38#8 tag .noCavity [])) ∧
      (∀ (k : CavityId) (c : Cavity), i.toNat = k.val → s.cavity k = some c →
        (c.state ≠ .retained → exec (.separate tag [i]) s = .next (s.replied 0x38#8 tag .wrongState [])) ∧
        (c.state = .retained → s.job.state = .complete → s.pins.interlock = false ∨ s.interlock.latched = true →
          exec (.separate tag [i]) s = .next (s.replied 0x38#8 tag .interlock [])) ∧
        (c.state = .retained → s.job.state = .complete → s.pins.interlock = true → s.interlock.latched = false →
          k ∉ s.sepQueue →
          exec (.separate tag [i]) s =
            .next
              (State.finish false
                (State.pushReply
                  { s.popRequest with
                    sepQueue := s.sepQueue ++ [k]
                    job := { s.job with state := .running, reasons := ⟨false, false, false, false⟩ }
                    link :=
                      { s.popRequest.link with
                        heartbeat := if s.params.heartbeat = 0 then none else some s.params.heartbeat } }
                  0x38#8 tag .ok []))) ∧
        (c.state = .retained → s.job.state ≠ .complete → k ∈ s.sepQueue →
          exec (.separate tag [i]) s = .next (s.replied 0x38#8 tag .ok [])) ∧
        (c.state = .retained → s.job.state ≠ .complete → k ∉ s.sepQueue →
          exec (.separate tag [i]) s =
            .next (State.replied { s with sepQueue := s.sepQueue ++ [k] } 0x38#8 tag .ok []))))) ∧
  (∀ (s : State) (tag i : Byte), s.decides 0x39#8 tag [i] = true → s.quiet →
    (64 ≤ i.toNat → exec (.slugRelease tag [i]) s = .next (s.replied 0x39#8 tag .badField [])) ∧
    (∀ k : CavityId, i.toNat = k.val →
      (s.cavity k = none → exec (.slugRelease tag [i]) s = .next (s.replied 0x39#8 tag .noCavity [])) ∧
      ((s.cavity k).isSome = true → s.retention.clamp ≠ .held k →
        exec (.slugRelease tag [i]) s = .next (s.replied 0x39#8 tag .wrongState [])) ∧
      ((s.cavity k).isSome = true → s.retention.clamp = .held k →
        exec (.slugRelease tag [i]) s =
          .next
            (State.replied { s with retention := { s.retention with clamp := .free, clampReq := false } } 0x39#8 tag .ok []))))

/-! ### Segment store -/

/-- SEG_APPEND takes its records in order and stops at the first refused one; the reply carries that record's code or OK, the
number accepted and the free count. In IDLE, HALTED and COMPLETE it is refused with count 0 (R43, chapter 11.2). That the job state is
tested once, before the records, is the model's choice (notes/assumptions/34.md). -/
def Obligations.AppendTakesRecordsInOrder : Prop :=
  (∀ (s : State) (tag : Byte) (payload : List Byte), appendLength payload.length = true →
    s.decides 0x30#8 tag payload = true → s.quiet →
    (s.job.state ∈ [.idle, .halted, .complete] →
      exec (.segAppend tag payload) s =
        .next (s.replied 0x30#8 tag .wrongState (enc8 0 ++ enc16 s.store.free))) ∧
    (s.job.state ∈ [.loading, .running, .paused] →
      let a := State.appendAll (parseRecords payload 0 (payload.length / 13)) 0 s.popRequest
      exec (.segAppend tag payload) s =
        .next ((a.state.pushReply 0x30#8 tag a.result (enc8 a.count ++ enc16 a.state.store.free)).finish false))) ∧
  (∀ (s : State) (n : Nat), State.appendAll [] n s = ⟨s, .ok, n⟩) ∧
  (∀ (s t : State) (r : SegRecord) (rest : List SegRecord) (n : Nat), s.appendOne r = .ok t →
    State.appendAll (r :: rest) n s = State.appendAll rest (n + 1) t) ∧
  (∀ (s : State) (r : SegRecord) (rest : List SegRecord) (n : Nat) (e : Result), s.appendOne r = .error e →
    State.appendAll (r :: rest) n s = ⟨s, e, n⟩)

/-- A record for a pass chain or for the reroute chain is refused by the first check it fails, in the order of R44 to R46, and leaves
the state as it was. One that passes them all takes a slot and joins its chain in state QUEUED with the offsets, points and counts of
R41 and R47. In the active chain it is engaged within the window and an engine STARVED leaves for CUTTING or for the hold (R48, R89,
R100). In a pass AT_HOLD it is parked, or on a skim pass discarded without a slot, and its CLOSE completes the pass, at once or,
during a recovery, at RESUMING (R57, R58, R93, R94, R133). The first reroute record begins the reroute chain, or, in PAUSED, has it
begun at the resume (R131, R135). That codes raised are handed after each record is the model's choice (notes/assumptions/9.md), and
so are the numbers of chains (notes/assumptions/19.md). -/
def Obligations.PassRecordIsCheckedAndStored : Prop :=
  ∀ (s : State) (r : SegRecord) (i : CavityId) (c : Cavity), s.raised = [] → r.unused = false →
    r.cavity = i.val → s.cavity i = some c → c.state.isFinal = false →
    let len := lengthOf r.dx r.dy
    let misplaced (ch : Chain) (endAt : Point) : Prop :=
      ¬ ((-2000000 ≤ r.dx ∧ r.dx ≤ 2000000 ∧ -2000000 ≤ r.dy ∧ r.dy ≤ 2000000 ∧ ¬ (r.dx = 0 ∧ r.dy = 0)) ∧
        (-8388608 ≤ endAt.x ∧ endAt.x ≤ 8388607 ∧ -8388608 ≤ endAt.y ∧ endAt.y ≤ 8388607) ∧ ch.endOffset + len ≤ 4294967295)
    let segment (ch : Chain) (from_ endAt : Point) : Segment :=
      { seq := r.seq, dx := r.dx, dy := r.dy, feedClass := r.feedClass, mode := r.mode, entry := r.entry, hold := r.hold
        close := r.close, s0 := ch.endOffset, len := len, start := from_, stop := endAt, state := .queued }
    (∀ k : PassIx, r.chain = k.val →
      let ch := (c.passes[k]).chain
      let from_ := if ch.appended = 0 then c.origin (.pass k) else ch.endPoint
      let endAt : Point := ⟨from_.x + r.dx, from_.y + r.dy⟩
      let entered : Bool := ch.entrySeq.isSome || r.entry
      let held : Bool := ch.holdOffset.isSome || r.hold
      let discarded : Prop := k ≠ 0 ∧ (c.passes[k]).state = .atHold
      let verdict : Option Result :=
        if c.passCount ≤ k.val then some .badField
        else if (∃ j : PassIx, j.val + 1 = k.val ∧ (c.passes[j]).chain.closed = false) then some .passOrder
        else if ch.closed = true then some .passClosed
        else if r.seq ≠ ch.nextSeq then some .outOfOrder
        else if 65535 ≤ r.seq ∧ r.close = false then some .badField
        else if misplaced ch endAt then some .geometry
        else if r.entry = true ∧ ¬ (k = 0 ∧ ch.entrySeq = none) then some .holdMisplaced
        else if k = 0 ∧ entered = false ∧ 32 ≤ ch.leadInCount then some .leadInTooLong
        else if r.hold = true ∧ (c.planned = .none ∨ ch.holdOffset.isSome = true ∨ (k = 0 ∧ entered = false)) then
          some .holdMisplaced
        else if k = 0 ∧ c.planned ≠ .none ∧ held = true ∧ 64 ≤ ch.bridgeCount then some .bridgeTooLong
        else if r.close = true ∧ k = 0 ∧ entered = false then some .holdMisplaced
        else if r.close = true ∧ c.planned ≠ .none ∧ held = false then some .noHold
        else if s.store.free = 0 ∧ ¬ discarded then some .poolFull
        else none
      let g := segment ch from_ endAt
      let counted : Chain :=
        { ch with
          appended := ch.appended + 1, nextSeq := ch.nextSeq + 1, closed := ch.closed || r.close
          holdOffset := if r.hold then some ch.endOffset else ch.holdOffset
          holdPoint := if r.hold then from_ else ch.holdPoint
          endOffset := ch.endOffset + len, endPoint := endAt
          entrySeq := if r.entry then some r.seq else ch.entrySeq
          leadInCount := if k = 0 ∧ entered = false then ch.leadInCount + 1 else ch.leadInCount
          bridgeCount := if k = 0 ∧ held = true then ch.bridgeCount + 1 else ch.bridgeCount }
      let stored (x : Chain) (d : Cavity) (free : Nat) : State :=
        { s with
          cavities := s.cavities.set i.val (some { d with passes := d.passes.set k.val { c.passes[k] with chain := x } })
          store := { s.store with free := free } }
      let onEngine : Prop := s.job.active = some i ∧ s.engine.chain = some (.pass k)
      let ready : Engine := { s.engine with prevStep := 0, run := 0, reference := none }
      (∀ e, verdict = some e → s.appendOne r = .error e) ∧
      (verdict = none → (c.passes[k]).state ≠ .atHold →
        let joined : Chain := { counted with segs := ch.segs ++ [g] }
        let engaged : State := stored (joined.engage s.engine.p) c (s.store.free - 1)
        let holds : Prop :=
          ((k = 0 ∧ c.planned ≠ .none ∧ c.effective = none) ∨ (k ≠ 0 ∧ c.effective = some .bridge)) ∧
            counted.holdOffset = some s.engine.p
        (¬ onEngine → s.appendOne r = .ok (stored joined c (s.store.free - 1))) ∧
        (onEngine → s.engine.state ≠ .starved → ¬ (s.engine.state = .paused ∧ s.engine.resume = some .starved) →
          s.appendOne r = .ok engaged) ∧
        (onEngine → s.engine.state = .paused → s.engine.resume = some .starved →
          s.appendOne r = .ok { engaged with engine := { s.engine with resume := some .cutting } }) ∧
        (onEngine → s.engine.state = .starved → ¬ holds →
          s.appendOne r = .ok { engaged with engine := { ready with state := .cutting } }) ∧
        (onEngine → s.engine.state = .starved → holds →
          s.appendOne r = .ok (settle (State.reachHold { engaged with engine := ready })).drain)) ∧
      (verdict = none → (c.passes[k]).state = .atHold →
        let pushed : Cavity :=
          { c with
            bridge := c.bridge ++ [{ g with state := .parked }]
            bridgeLength :=
              if r.close = true then some (((c.bridge ++ [g]).map fun x => x.len).sum) else c.bridgeLength }
        let left : State :=
          if k = 0 then stored counted pushed (s.store.free - 1)
          else stored { counted with retired := ch.retired + 1 } c s.store.free
        (r.close = false → s.appendOne r = .ok left) ∧
        (r.close = true → s.recovery.stage ≠ .none →
          s.appendOne r = .ok { left with recovery := { s.recovery with closePending := true } }) ∧
        (r.close = true → s.recovery.stage = .none → s.engine.state = .paused →
          s.appendOne r = .ok (left.completeSteps k).drain) ∧
        (r.close = true → s.recovery.stage = .none → s.engine.state ≠ .paused →
          s.appendOne r = .ok (State.completePasses 4 left).drain))) ∧
    (r.chain = 4 → (∀ o, s.store.reroute = some o → o.owner = i) →
      let ch := (s.rerouteOf i).getD (Chain.new s.store.nextSerial)
      let from_ := if ch.appended = 0 then c.hole else ch.endPoint
      let endAt : Point := ⟨from_.x + r.dx, from_.y + r.dy⟩
      let verdict : Option Result :=
        if ¬ (s.job.active = some i ∧ s.recovery.stage ∈ [.awaitReroute, .reroute]) then some .wrongState
        else if ch.closed = true then some .passClosed
        else if r.seq ≠ ch.nextSeq then some .outOfOrder
        else if 65535 ≤ r.seq ∧ r.close = false then some .badField
        else if misplaced ch endAt then some .geometry
        else if r.mode ≠ .dry then some .badField
        else if r.entry = true ∨ r.hold = true then some .holdMisplaced
        else if r.close = true ∧ ¬ (∃ rp, s.recovery.resumePoint = some rp ∧ rp.pos = endAt) then some .rerouteMismatch
        else if s.store.free = 0 then some .poolFull
        else none
      let joined : Chain :=
        { ch with
          segs := ch.segs ++ [segment ch from_ endAt], appended := ch.appended + 1, nextSeq := ch.nextSeq + 1
          closed := ch.closed || r.close, endOffset := ch.endOffset + len, endPoint := endAt }
      let stored (x : Chain) : State :=
        { s with
          store :=
            { s.store with
              free := s.store.free - 1, reroute := some { owner := i, chain := x }
              nextSerial := if s.store.reroute.isSome then s.store.nextSerial else s.store.nextSerial + 1 } }
      (∀ e, verdict = some e → s.appendOne r = .error e) ∧
      (verdict = none → s.recovery.stage = .awaitReroute → s.engine.chain ≠ some .reroute →
        (s.job.state ≠ .paused →
          s.appendOne r =
            .ok
              (State.drain
                (State.startReroute { stored joined with recovery := { s.recovery with stage := .reroute } }))) ∧
        (s.job.state = .paused →
          s.appendOne r =
            .ok { stored joined with recovery := { s.recovery with stage := .reroute, startPending := true } })) ∧
      (verdict = none → s.recovery.stage = .reroute →
        (s.engine.chain ≠ some .reroute → s.appendOne r = .ok (stored joined)) ∧
        (s.engine.chain = some .reroute → s.engine.state ≠ .starved →
          ¬ (s.engine.state = .paused ∧ s.engine.resume = some .starved) →
          s.appendOne r = .ok (stored (joined.engage s.engine.p))) ∧
        (s.engine.chain = some .reroute → s.engine.state = .paused → s.engine.resume = some .starved →
          s.appendOne r =
            .ok { stored (joined.engage s.engine.p) with engine := { s.engine with resume := some .cutting } }) ∧
        (s.engine.chain = some .reroute → s.engine.state = .starved →
          s.appendOne r =
            .ok
              { stored (joined.engage s.engine.p) with
                engine := { s.engine with state := .cutting, prevStep := 0, run := 0, reference := none } })))

/-- SEG_REVISE: the tests in their order; taken, one QUEUED segment has the new feed class and nothing else changes (R50). -/
def Obligations.ReviseReplacesFeedClass : Prop :=
  ∀ (s : State) (tag : Byte) (payload : List Byte), payload.length = 5 → s.decides 0x31#8 tag payload = true → s.quiet →
    let chain := byteAt payload 1
    let seq := u16At payload 2
    (s.job.state ∈ [.idle, .halted, .complete] →
      exec (.segRevise tag payload) s = .next (s.replied 0x31#8 tag .wrongState [])) ∧
    (s.job.state ∈ [.loading, .running, .paused] →
      ((∀ (i : CavityId) (c : Cavity), byteAt payload 0 = i.val → s.cavity i = some c → c.state.isFinal = true) →
        exec (.segRevise tag payload) s = .next (s.replied 0x31#8 tag .noCavity [])) ∧
      (∀ (i : CavityId) (c : Cavity), byteAt payload 0 = i.val → s.cavity i = some c → c.state.isFinal = false →
        (8 ≤ byteAt payload 4 ∨ 5 ≤ chain ∨ (c.passCount ≤ chain ∧ chain < 4) ∨ (chain = 4 ∧ s.rerouteOf i = none) →
          exec (.segRevise tag payload) s = .next (s.replied 0x31#8 tag .badField [])) ∧
        (∀ (k : PassIx) (cls : ClassIx), chain = k.val → k.val < c.passCount → byteAt payload 4 = cls.val →
          ((c.passes[k]).chain.nextSeq ≤ seq →
            exec (.segRevise tag payload) s = .next (s.replied 0x31#8 tag .badField [])) ∧
          (seq < (c.passes[k]).chain.nextSeq →
            (∀ g ∈ (c.passes[k]).chain.segs, g.seq = seq → g.state ≠ .queued) →
            exec (.segRevise tag payload) s = .next (s.replied 0x31#8 tag .tooLate [])) ∧
          (seq < (c.passes[k]).chain.nextSeq →
            (∃ g ∈ (c.passes[k]).chain.segs, g.seq = seq ∧ g.state = .queued) →
            exec (.segRevise tag payload) s =
              .next
                (State.replied
                  (s.updCavity i fun v =>
                    v.updPass k fun p =>
                      { p with
                        chain :=
                          { p.chain with
                            segs := p.chain.segs.map fun g => if g.seq = seq then { g with feedClass := cls } else g } })
                  0x31#8 tag .ok []))) ∧
        (∀ (o : OwnedChain) (cls : ClassIx), chain = 4 → s.store.reroute = some o → o.owner = i → byteAt payload 4 = cls.val →
          (o.chain.nextSeq ≤ seq → exec (.segRevise tag payload) s = .next (s.replied 0x31#8 tag .badField [])) ∧
          (seq < o.chain.nextSeq → (∀ g ∈ o.chain.segs, g.seq = seq → g.state ≠ .queued) →
            exec (.segRevise tag payload) s = .next (s.replied 0x31#8 tag .tooLate [])) ∧
          (seq < o.chain.nextSeq → (∃ g ∈ o.chain.segs, g.seq = seq ∧ g.state = .queued) →
            exec (.segRevise tag payload) s =
              .next
                (State.replied
                  { s with
                    store :=
                      { s.store with
                        reroute :=
                          some
                            { o with
                              chain :=
                                { o.chain with
                                  segs :=
                                    o.chain.segs.map fun g => if g.seq = seq then { g with feedClass := cls } else g } } } }
                  0x31#8 tag .ok [])))))

/-- A chain at an increased H: no CUT segment that ends one retrace depth or more behind H stays, at most 16 CUT segments stay, only
CUT segments retire, and, in a chain in path order, the oldest of them first; what stays keeps its order (R52). -/
def Obligations.RetirementKeepsWindow : Prop :=
  ∀ (c : Chain) (h : Nat),
    let gone := (c.retiring h).1
    let kept := (c.retiring h).2
    (∀ g ∈ kept, g.state = .cut → h < g.endOffset + c.depth) ∧
    (kept.filter fun g => decide (g.state = .cut)).length ≤ 16 ∧
    (∀ g ∈ gone, g.state = .cut) ∧
    kept.Sublist c.segs ∧ gone.length + kept.length = c.segs.length ∧
    (∀ g ∈ c.segs, g.state = .cut → g.endOffset + c.depth ≤ h → g ∈ gone) ∧
    ((c.segs.filter fun g => decide (g.state = .cut ∧ h < g.endOffset + c.depth)).length ≤ 16 →
      kept = c.segs.filter fun g => decide (¬ (g.state = .cut ∧ g.endOffset + c.depth ≤ h))) ∧
    (c.segs.Pairwise (fun a b => a.endOffset ≤ b.endOffset) →
      c.segs.filter (fun g => decide (g.state = .cut)) = gone ++ kept.filter fun g => decide (g.state = .cut))

/-- The arithmetic of the path: the square root is rounded down (R41), an interpolated position starts and ends on the segment's
two points and lies between them on either axis (R77), and a rapid move ends on its target (R76). -/
def Obligations.PathArithmeticIsExact : Prop :=
  (∀ v : Nat, isqrt v * isqrt v ≤ v ∧ v < (isqrt v + 1) * (isqrt v + 1)) ∧
  (∀ g : Segment, 0 < g.len → g.stop = ⟨g.start.x + g.dx, g.start.y + g.dy⟩ →
    g.position g.s0 = g.start ∧ g.position g.endOffset = g.stop ∧
    ∀ p : Nat, g.s0 ≤ p → p ≤ g.endOffset →
      min g.start.x g.stop.x ≤ (g.position p).x ∧ (g.position p).x ≤ max g.start.x g.stop.x ∧
        min g.start.y g.stop.y ≤ (g.position p).y ∧ (g.position p).y ≤ max g.start.y g.stop.y) ∧
  (∀ a b : Point, rapidPosition a b 0 = a ∧ rapidPosition a b (rapidLength a b) = b)

/-! ### Cut engine -/

/-- A cut window without discharge, and a retract with room, as R67 to R69 give: P moves back by B, 2·B or 4·B but not below the
floor, H stays; without room STUCK_SHORT is raised with k and P stays (R70). The set-point ends the window (R83); that it goes out before
the actions of STUCK_SHORT is the model's choice (notes/assumptions/13.md). -/
def Obligations.WindowsThatDoNotAdvance : Prop :=
  ∀ (s : State) (msg : List Byte) (r : Report) (ref : ChainRef) (c : Chain) (g : Segment), s.operating = true →
    s.raised = [] → parseReport msg = some r → s.engine.state = .cutting → s.engine.chain = some ref →
    s.activeChain = some c → s.segmentAtP = some g → g.mode = .cut → (r.fault = true → s.genWatch.latch = true) →
    let total := r.o + r.n + r.a + r.s
    let watched : Watch := { timer := some 10, latch := r.fault }
    let b := (s.feed[g.feedClass]).retract
    let k := min (s.engine.run + 1) 65535
    let back := min (if k = 1 then b else if k = 2 then 2 * b else 4 * b) (s.engine.p - s.engine.floor)
    let fractions : Fractions :=
      { o := 1000 * r.o / total, n := 1000 * r.n / total, a := 1000 * r.a / total, s := 1000 * r.s / total }
    (total = 0 ∨ r.fault = true →
      exec (.windowReport msg) s =
        .next
          (State.reported
            { s with
              genWatch := watched
              engine := { s.engine with prevStep := 0, run := 0, commanded := s.positionAt ref s.engine.p } })) ∧
    (0 < total → r.fault = false → total ≤ 4 * r.s → s.engine.floor < s.engine.p →
      back ≤ 4 * b ∧ s.engine.floor ≤ s.engine.p - back ∧
      exec (.windowReport msg) s =
        .next
          (State.reported
            { s with
              genWatch := watched
              engine :=
                { s.engine with
                  p := s.engine.p - back, prevStep := 0, run := k, reference := some fractions
                  commanded := s.positionAt ref (s.engine.p - back) } })) ∧
    (0 < total → r.fault = false → total ≤ 4 * r.s → s.engine.p ≤ s.engine.floor →
      let u : State :=
        { s with
          genWatch := watched
          engine :=
            { s.engine with
              prevStep := 0, run := k, reference := some fractions, commanded := s.positionAt ref s.engine.p } }
      exec (.windowReport msg) s = .next ((u.raise Event.stuckShort k).sendSetPoint.finish true))

/-- A forward window: the fractions, the stability index against the reference, the working cap, the gap figure and the desired
step, and the step applied, which no term of R71 to R74 lies below. In a chain in path order the distance reaches to the nearest
of the end offset, the hold while it applies, the first ENGAGED segment of the other mode, and the look-ahead limit (R73). Whether
the distance of a dry window counts a segment of mode CUT in state CUT as well (R69, R153) or not (R73, R75) is a free value
(notes/assumptions/30.md). That the set-point goes out before the actions of codes raised in the window is the model's choice
(notes/assumptions/13.md). -/
def Obligations.ForwardWindowFollowsServo : Prop :=
  (∀ (s : State) (msg : List Byte) (r : Report) (c : Chain) (g : Segment), s.operating = true → s.raised = [] →
    parseReport msg = some r → s.engine.state = .cutting → s.activeChain = some c → s.segmentAtP = some g → g.mode = .cut →
    r.fault = false → 4 * r.s < r.o + r.n + r.a + r.s →
    let total := r.o + r.n + r.a + r.s
    let cls := s.feed[g.feedClass]
    let f : Fractions :=
      { o := 1000 * r.o / total, n := 1000 * r.n / total, a := 1000 * r.a / total, s := 1000 * r.s / total }
    let gap (x y : Nat) : Nat := (x - y) + (y - x)
    let index := match s.engine.reference with
      | none => 0
      | some q => gap f.o q.o + gap f.n q.n + gap f.a q.a + gap f.s q.s
    let cap := if cls.theta < index then cls.cap / 2 else cls.cap
    let num : Int := 1024 * r.o + 512 * r.n - 512 * r.a
    let figure : Nat := if num ≤ 0 then 0 else num.toNat / total
    let step := min (min (min (cap * figure * s.feedOverride / 102400) cls.cap) (s.engine.prevStep + cls.accel)) (s.distance c g)
    let u : State :=
      { s with
        genWatch := { timer := some 10, latch := false }, engine := { s.engine with reference := some f } }
    exec (.windowReport msg) s = .next ((u.applyStep c step step).sendSetPoint.finish true) ∧
      997 ≤ f.o + f.n + f.a + f.s ∧ f.o + f.n + f.a + f.s ≤ 1000 ∧ figure ≤ 1024) ∧
  (∀ (s : State) (c : Chain) (g : Segment), c.segs.Pairwise (fun a b => a.endOffset ≤ b.s0) →
    (∀ x ∈ c.segs, 0 < x.len ∧ x.endOffset ≤ c.endOffset) → s.engine.p ≤ c.endOffset → g ∈ c.segs →
    g.state = .engaged ∨ (g.state = .cut ∧ ∃ x ∈ c.segs, x.state = .engaged ∧ s.engine.p ≤ x.endOffset) →
    s.engine.p ≤ g.endOffset →
    let stop := s.engine.p + s.distance c g
    let counts (x : Segment) : Prop :=
      x.state = .engaged ∨ (x.state = .cut ∧ g.mode = .dry ∧ Config.dryStopsAtCutState = true)
    stop ≤ c.endOffset ∧ (∀ o, c.holdOffset = some o → s.holdApplies = true → s.engine.p ≤ o → stop ≤ o) ∧
      (∀ x ∈ c.segs, counts x → x.mode ≠ g.mode → g.s0 < x.s0 → stop ≤ x.s0) ∧
      (∃ x ∈ c.segs, x.state = .engaged ∧ stop ≤ x.endOffset) ∧
      (stop = c.endOffset ∨ (c.holdOffset = some stop ∧ s.holdApplies = true) ∨
        (∃ x ∈ c.segs, counts x ∧ x.mode ≠ g.mode ∧ g.s0 < x.s0 ∧ stop = x.s0) ∨
        (∃ x ∈ c.segs, x.state = .engaged ∧ stop = x.endOffset)))

/-- A dry window steps by the dry speed or to the stop point and forgets the servo (R75); a window of a rapid move advances
along the line, and at its end stands on the target and is handed to its requester; a traverse moves P back and at its target
leaves the engine BROKEN with the recovery in RESUMING (R76, R97, R129). An arrival begins the threading of a selected cavity
or of the hole route, at ANNEAL or with anneal time 0 at TRIM, after a full SEVER with the wire in (R107, R108), the JET of a
POSITION step, the chain's first state after a seat move, or the restore (R36, R80, R81, R110, R111, R130, R133). Whether
a dry window's distance counts segments in state CUT is a free value (notes/assumptions/30.md). That the set-point goes out before
the actions of codes raised in the window is the model's choice (notes/assumptions/13.md). -/
def Obligations.DryAndRapidWindowsMove : Prop :=
  ∀ (s : State) (msg : List Byte) (r : Report), s.operating = true → s.raised = [] → parseReport msg = some r →
    r.fault = false →
    let watched : Watch := { timer := some 10, latch := false }
    (∀ (c : Chain) (g : Segment), s.engine.state = .cutting → s.activeChain = some c → s.segmentAtP = some g → g.mode = .dry →
      let u : State := { s with genWatch := watched, engine := { s.engine with reference := none } }
      exec (.windowReport msg) s =
        .next ((u.applyStep c (min s.params.drySpeed (s.distance c g)) 0).sendSetPoint.finish true)) ∧
    (∀ (origin target : Point) (q : Nat) (purpose : MovePurpose) (back : EngineState), s.engine.state = .rapid →
      s.engine.move = some (.rapid origin target q purpose back) →
      let len := rapidLength origin target
      let moved (place : Point) (q1 : Nat) : State :=
        { s with
          genWatch := watched
          engine :=
            { s.engine with
              commanded := place, move := some (.rapid origin target q1 purpose back), prevStep := 0, run := 0
              reference := none } }
      (q + s.params.rapidSpeed < len →
        exec (.windowReport msg) s =
          .next
            (State.reported (moved (rapidPosition origin target (q + s.params.rapidSpeed)) (q + s.params.rapidSpeed)))) ∧
      (q ≤ len → len ≤ q + s.params.rapidSpeed →
        exec (.windowReport msg) s = .next ((((moved target len).arrived purpose back).sendSetPoint).finish true))) ∧
    (∀ (ref : ChainRef) (target : Nat), s.engine.state = .rapid → s.engine.move = some (.traverse target) →
      s.engine.chain = some ref → target ≤ s.engine.p → s.engine.p ≤ target + s.params.drySpeed →
      exec (.windowReport msg) s =
        .next
          ((State.sendSetPoint
            (State.enterResuming
              { s with
                genWatch := watched
                engine :=
                  { s.engine with
                    state := .broken, move := none, p := target, commanded := s.positionAt ref target, prevStep := 0
                    run := 0, reference := none } })).finish true)) ∧
    (∀ (i : CavityId) (c : Cavity) (purpose : MovePurpose) (back : EngineState), s.job.active = some i → s.cavity i = some c →
      let standing (st : EngineState) : Engine := { s.engine with state := st, move := none }
      let profile := s.profiles[c.profile]
      let begun (for_ : Purpose) (recovery : Recovery) (e : Engine) : State :=
        let first : Attempting := { purpose := for_, target := c.hole, attempt := 1, cavity := i }
        if s.threading.wireIn = true then
          { s with
            engine := e, recovery := recovery
            threading := Threading.severing { s.threading with work := some first } profile .full .preThread i }
        else
          { s with
            engine := e, recovery := recovery
            cavities := s.cavities.set i.val (some { c with attemptsUsed := 1 })
            threading := s.threading.attempting profile first }
      (purpose = .sequencer →
        s.arrived purpose back =
          begun (if c.state = .separating then .separation else .cutting) s.recovery (standing .idle)) ∧
      (purpose = .toHole →
        s.arrived purpose back = begun .recovery { s.recovery with stage := .holeThread } (standing .broken)) ∧
      (∀ w, purpose = .position → s.threading.state = .position → s.threading.restart = none → s.threading.work = some w →
        w.cavity = i →
        s.arrived purpose back =
          { s with
            engine := standing back
            threading :=
              { s.threading with
                state := .jet, homeWait := false, timer := some profile.passTimeout
                out :=
                  { ThreadOut.off with
                    jet := true, jetLevel := jetLevel profile s.jetCeil w.purpose w.attempt, feedFwd := true } } }) ∧
      (purpose = .position → s.threading.state ≠ .position ∨ s.threading.restart ≠ none →
        s.arrived purpose back = { s with engine := standing back }) ∧
      (∀ (ref : ChainRef) (x : Chain), purpose = .chainSeat → s.engine.chain = some ref → s.activeChain = some x →
        (x.appended = 0 →
          s.arrived purpose back = State.raise { s with engine := standing .starved } Event.starved x.nextSeq) ∧
        (0 < x.appended → s.atHold = false → s.arrived purpose back = { s with engine := standing .cutting }) ∧
        (0 < x.appended → s.atHold = true →
          s.arrived purpose back = settle (State.reachHold { s with engine := standing .cutting }))) ∧
      (purpose = .restoreSeat → s.arrived purpose back = State.resumeNow { s with engine := standing .broken })) ∧
    (∀ (ref : ChainRef) (target : Nat), s.engine.state = .rapid → s.engine.move = some (.traverse target) →
      s.engine.chain = some ref → target + s.params.drySpeed < s.engine.p →
      exec (.windowReport msg) s =
        .next
          (State.reported
            { s with
              genWatch := watched
              engine :=
                { s.engine with
                  p := s.engine.p - s.params.drySpeed
                  commanded := s.positionAt ref (s.engine.p - s.params.drySpeed), prevStep := 0, run := 0
                  reference := none } }))

/-- The effects of a step (R74): a step of 0 leaves path and store; one behind H engages only; one past H raises H, makes segments
CUT, retires, those of pass 0 before ENTRY into the lead-in list, and recomputes the floor. Then the stop point P stands on: the
hold, the chain end, or the starvation point, which leaves the engine STARVED with its code raised (R87, R88, R90). In a chain in
path order the floor stays at or below P, and P at or below H (R55). -/
def Obligations.StepTakesEffectOnChain : Prop :=
  ∀ (s : State) (ref : ChainRef) (c : Chain) (step prev : Nat), s.engine.chain = some ref → s.activeChain = some c →
    s.engine.p ≤ s.engine.h →
    let q := s.engine.p + step
    let stepped : Engine := { s.engine with p := q, h := max s.engine.h q, prevStep := prev, run := 0 }
    let held : Bool := s.holdApplies && decide (c.holdOffset = some q)
    let crossed := (c.engage q).markCut q
    let gone := (crossed.retiring q).1
    let kept := (crossed.retiring q).2
    let behind : State :=
      { s.updChain ref fun d => d.engage q with
        engine := { stepped with commanded := (s.updChain ref fun d => d.engage q).positionAt ref q } }
    let inOrder : Prop :=
      s.engine.floor ≤ s.engine.p ∧ q ≤ c.endOffset ∧ c.segs.Pairwise (fun a b => a.endOffset ≤ b.s0) ∧
        (∀ x ∈ c.segs, 0 < x.len ∧ x.endOffset ≤ c.endOffset ∧ (x.state = .cut → x.endOffset ≤ s.engine.h)) ∧
        (q < c.endOffset → ∃ x ∈ c.segs, x.covers q = true)
    let advanced (u : State) : Prop :=
      u.activeChain = some { crossed with segs := kept, retired := c.retired + gone.length } ∧
        u.engine =
          { stepped with
            floor := Chain.floorAt { crossed with segs := kept } q q, commanded := u.positionAt ref q } ∧
        (ref ≠ .pass 0 → u.store.free = s.store.free + gone.length) ∧
        (∀ (i : CavityId) (v : Cavity), ref = .pass 0 → s.job.active = some i → s.cavity i = some v →
          let lead := gone.filter fun g => match c.entrySeq with
            | some e => decide (g.seq < e)
            | none => true
          ∃ d : Cavity, u.cavity i = some d ∧ d.leadIn = v.leadIn ++ lead.map (fun g => { g with state := .leadIn }) ∧
            d.bridge = v.bridge ∧ u.store.free + lead.length = s.store.free + gone.length) ∧
        u.job = s.job ∧ u.threading = s.threading ∧ u.recovery = s.recovery ∧ u.retention = s.retention ∧ u.link = s.link ∧
        u.runOrder = s.runOrder ∧ u.sepQueue = s.sepQueue ∧ u.raised = s.raised ∧
        (∀ j, s.job.active ≠ some j → u.cavity j = s.cavity j) ∧ u.sameSettings s ∧
        (inOrder → u.engine.floor ≤ u.engine.p ∧ u.engine.p ≤ u.engine.h)
    let stopped (u t : State) : Prop :=
      (held = true → t = settle u.reachHold) ∧
        (held = false → q = c.endOffset → c.closed = true → t = u.chainEnd) ∧
        (held = false → q = c.endOffset → c.closed = false →
          t = State.raise { u with engine := { u.engine with state := .starved } } Event.starved c.nextSeq) ∧
        (held = false → q ≠ c.endOffset → t = u)
    (step = 0 →
      s.applyStep c step prev =
        { s with engine := { stepped with commanded := s.positionAt ref q } }) ∧
    (0 < step → q ≤ s.engine.h → stopped behind (s.applyStep c step prev)) ∧
    (s.engine.h < q → ∃ u : State, advanced u ∧ stopped u (s.applyStep c step prev))

/-- With the engine in IDLE, STARVED, CLAMP_WAIT, PAUSED or BROKEN a report makes no step, and the set-point goes out (R62, R83);
the generator watch restarts its timer, and raises GEN_FAULT once for a faulted report or a silence (R63). Under an entry that only
pauses, the first faulted report adds EVENT to a PAUSED job and pauses a RUNNING one; in CUTTING it is a no-discharge window, and
the pause follows (R21, R63, R68). The model's choices: the pause is handed after the window and its set-point, and a dry or rapid
window under the flag still moves (notes/assumptions/12.md, 13.md); a stopped timer's expiry changes nothing
(notes/assumptions/1.md). -/
def Obligations.RestingWindowsAndGeneratorWatch : Prop :=
  (∀ msg : List Byte, msg.length = 9 →
    parseReport msg =
      some
        { o := u16At msg 0 % 4096, n := u16At msg 2 % 4096, a := u16At msg 4 % 4096, s := u16At msg 6 % 4096
          fault := decide (byteAt msg 8 % 2 = 1) }) ∧
  (∀ (s : State) (msg : List Byte), s.operating = true → msg.length ≠ 9 → exec (.windowReport msg) s = .next s) ∧
  (∀ (s : State) (msg : List Byte) (r : Report), s.operating = true → s.quiet → parseReport msg = some r →
    s.engine.state ∈ [.idle, .starved, .clampWait, .paused, .broken] →
    let watched : State := { s with genWatch := { timer := some 10, latch := r.fault } }
    ((r.fault = true → s.genWatch.latch = true) → exec (.windowReport msg) s = .next watched.reported) ∧
    (r.fault = true → s.genWatch.latch = false → s.inert Event.genFault = true →
      exec (.windowReport msg) s = .next ((watched.carried Event.genFault 1).reported))) ∧
  (∀ s : State, s.operating = true → s.quiet →
    let expired : State := { s with genWatch := { timer := none, latch := true } }
    (s.genWatch.timer = none → exec .genSilenceExpiry s = .next s) ∧
    (s.genWatch.timer.isSome = true → s.genWatch.latch = true → exec .genSilenceExpiry s = .next expired.closed) ∧
    (s.genWatch.timer.isSome = true → s.genWatch.latch = false → s.inert Event.genFault = true →
      exec .genSilenceExpiry s = .next ((expired.carried Event.genFault 0).closed)) ∧
    (s.genWatch.timer.isSome = true → s.genWatch.latch = false →
      exec .genSilenceExpiry s = .next ((expired.raise Event.genFault 0).finish false))) ∧
  (∀ (s : State) (msg : List Byte) (r : Report), s.operating = true → s.quiet → parseReport msg = some r →
    r.fault = true → s.genWatch.latch = false →
    let watched : State := { s with genWatch := { timer := some 10, latch := true } }
    let entry := s.maps.entry s.maps.active Event.genFault
    let suspended (e : Engine) : State :=
      { watched.noted Event.genFault 1 with
        job := { s.job with state := .paused, reasons := { s.job.reasons with event := true } }
        link := { (watched.noted Event.genFault 1).link with heartbeat := none }
        engine := e, threading := s.threading.suspend, retention := { s.retention with timer := none } }
    (s.engine.state ∈ [.idle, .starved, .clampWait, .paused, .broken] → s.onlyPauses Event.genFault = true →
      (s.job.state = .paused →
        exec (.windowReport msg) s =
          .next
            (State.reported
              (State.allOutputActions
                { watched.noted Event.genFault 1 with
                  job := { s.job with reasons := { s.job.reasons with event := true } } } entry))) ∧
      (s.job.state = .running →
        exec (.windowReport msg) s =
          .next
            (State.reported
              ((suspended
                (if s.engine.state ∈ [.starved, .clampWait] then
                  { s.engine with state := .paused, resume := some s.engine.state }
                else s.engine)).allOutputActions entry)))) ∧
    (∀ (ref : ChainRef) (c : Chain) (g : Segment), s.engine.state = .cutting → s.engine.chain = some ref →
      s.activeChain = some c → s.segmentAtP = some g → g.mode = .cut →
      let idled : Engine :=
        { s.engine with prevStep := 0, run := 0, commanded := s.positionAt ref s.engine.p }
      exec (.windowReport msg) s =
        .next ((State.sendSetPoint { watched.raise Event.genFault 1 with engine := idled }).finish true) ∧
      (s.onlyPauses Event.genFault = true → s.job.state = .running →
        exec (.windowReport msg) s =
          .next
            (State.reported
              ((suspended { idled with state := .paused, resume := some .cutting }).allOutputActions entry)))) ∧
    (∀ (c : Chain) (g : Segment), s.engine.state = .cutting → s.activeChain = some c → s.segmentAtP = some g → g.mode = .dry →
      let u : State := { watched.raise Event.genFault 1 with engine := { s.engine with reference := none } }
      exec (.windowReport msg) s =
        .next ((u.applyStep c (min s.params.drySpeed (s.distance c g)) 0).sendSetPoint.finish true)) ∧
    (∀ (origin target : Point) (q : Nat) (purpose : MovePurpose) (back : EngineState), s.engine.state = .rapid →
      s.engine.move = some (.rapid origin target q purpose back) →
      q + s.params.rapidSpeed < rapidLength origin target →
      let u : State :=
        { watched.raise Event.genFault 1 with
          engine :=
            { s.engine with
              commanded := rapidPosition origin target (q + s.params.rapidSpeed)
              move := some (.rapid origin target (q + s.params.rapidSpeed) purpose back), prevStep := 0, run := 0
              reference := none } }
      exec (.windowReport msg) s = .next (u.sendSetPoint.finish true)))

/-- A drive reply of nine bytes carries X and Y as signed 32-bit integers, each taken within the plane, and a fault bit for each axis; a
message of another length is no arrival (R179, R180, chapter 11.6). It stops the reply timer, becomes the commanded position while the
engine is IDLE outside RUNNING and PAUSED, and raises DRIVE_FAULT once per occurrence, as the timer's expiry does with detail 4
(R84, R85). That a stopped timer's expiry changes
nothing is the model's choice (notes/assumptions/1.md). -/
def Obligations.DriveWatchTakesReplies : Prop :=
  (∀ msg : List Byte, msg.length = 9 →
    let signed (n : Nat) : Int :=
      let raw : Nat := byteAt msg n + 2 ^ 8 * byteAt msg (n + 1) + 2 ^ 16 * byteAt msg (n + 2) + 2 ^ 24 * byteAt msg (n + 3)
      if raw < 2 ^ 31 then (raw : Int) else (raw : Int) - 2 ^ 32
    parseDriveReply msg =
      some
        { pos := ⟨max (-8388608) (min 8388607 (signed 0)), max (-8388608) (min 8388607 (signed 4))⟩
          xFault := decide (byteAt msg 8 % 2 = 1), yFault := decide (byteAt msg 8 / 2 % 2 = 1) }) ∧
  (∀ (s : State) (msg : List Byte), s.operating = true → msg.length ≠ 9 → exec (.driveReply msg) s = .next s) ∧
  (∀ (s : State) (msg : List Byte) (r : DriveReply), s.operating = true → s.quiet → parseDriveReply msg = some r →
    let fault : Bool := r.xFault || r.yFault
    let tracked : Engine :=
      if s.engine.state = .idle ∧ s.job.state ∈ [.idle, .loading, .halted, .complete] then { s.engine with commanded := r.pos }
      else s.engine
    let u : State := { s with engine := tracked, driveWatch := { timer := none, latch := fault } }
    ((fault = true → s.driveWatch.latch = true) → exec (.driveReply msg) s = .next u.closed) ∧
    (fault = true → s.driveWatch.latch = false →
      exec (.driveReply msg) s =
        .next
          ((u.raise Event.driveFault (if r.xFault = true then (if r.yFault = true then 3 else 1) else 2)).finish false)) ∧
    (fault = true → s.driveWatch.latch = false → u.inert Event.driveFault = true →
      exec (.driveReply msg) s =
        .next
          (u.carried Event.driveFault (if r.xFault = true then (if r.yFault = true then 3 else 1) else 2)).closed)) ∧
  (∀ s : State, s.operating = true → s.quiet →
    let expired : State := { s with driveWatch := { timer := none, latch := true } }
    (s.driveWatch.timer = none → exec .driveReplyTimerExpiry s = .next s) ∧
    (s.driveWatch.timer.isSome = true → s.driveWatch.latch = true →
      exec .driveReplyTimerExpiry s = .next expired.closed) ∧
    (s.driveWatch.timer.isSome = true → s.driveWatch.latch = false →
      exec .driveReplyTimerExpiry s = .next ((expired.raise Event.driveFault 4).finish false)))

/-- The pacing timer's expiry restarts it; where a chain's retired count is not its reported one, the notice of the active chain,
else of the lowest cavity and pass, is offered, and replaces one still queued (R9, R61). Where an ended separation chain's record
is kept (R39), its notice comes after those of its cavity's passes and carries its end offset as H: the model's choice
(notes/assumptions/14.md). Where a reroute or separation chain ceases, its queued notice is dropped and every other stays: at its
end, at its discard, when it is taken apart, and with its cavity (R59, R61); that it leaves the queue then is the model's choice
(notes/assumptions/25.md). Where the cavity ends by JOB_ABORT or HALT, which change no link port state but the heartbeat timer
(R10, R16), whether it stays is a free value (notes/assumptions/36.md). -/
def Obligations.PacingTimerOffersProgress : Prop :=
  (∀ (s : State) (r : ChainRef) (o : OwnedChain) (q : List Notice) (i : CavityId),
    let others (r : ChainRef) (o : OwnedChain) (n : Notice) : Bool := match n with
      | .progress c => decide (c.chain ≠ r ∨ c.serial ≠ o.chain.serial)
      | .event _ _ => true
    dropReports r none q = q ∧ dropReports r (some o) q = q.filter (others r o) ∧
    ((∀ x, s.store.reroute = some x → x.owner ≠ i) → (∀ x, s.store.separation = some x → x.owner ≠ i) →
      s.withoutReportsOf i q = q) ∧
    (s.store.reroute = some o → o.owner = i → (∀ x, s.store.separation = some x → x.owner ≠ i) →
      s.withoutReportsOf i q = q.filter (others .reroute o)) ∧
    (s.store.separation = some o → o.owner = i → (∀ x, s.store.reroute = some x → x.owner ≠ i) →
      s.withoutReportsOf i q = q.filter (others .separation o)) ∧
    (s.store.reroute = some o →
      s.discardReroute =
        { s with
          store := { s.store with free := s.store.free + o.chain.segs.length, reroute := none }
          link := { s.link with notices := s.link.notices.filter (others .reroute o) } }) ∧
    (∀ c, s.cavity i = some c →
      (s.freeCavity i).link = { s.link with notices := s.withoutReportsOf i s.link.notices } ∧
        (s.freeCavity i).store.reroute = withoutOwner s.store.reroute i ∧
        (s.freeCavity i).store.separation = withoutOwner s.store.separation i) ∧
    (∀ c reason, s.job.state = .running ∨ s.job.state = .paused → s.job.active = some i → s.cavity i = some c →
      (s.haltJob reason).link =
        { s.link with
          heartbeat := none
          notices := if Config.haltKeepsNotices = true then s.link.notices else s.withoutReportsOf i s.link.notices })) ∧
  (∀ s : State, s.operating = true → s.quiet → s.store.pacing.isSome = true →
    let u : State := { s with store := { s.store with pacing := some s.params.pacing } }
    ((∀ c, s.activeChain = some c → c.retired = c.reported) →
      (∀ (i : CavityId) (c : Cavity) (k : PassIx), s.cavity i = some c →
        (c.passes[k]).chain.retired = (c.passes[k]).chain.reported) →
      (∀ o, s.store.separation = some o → o.chain.retired = o.chain.reported) →
      exec .pacingTimerExpiry s = .next u.closed) ∧
    (∀ (ref : ChainRef) (c : Chain) (i : CavityId), s.engine.chain = some ref → s.activeChain = some c →
      s.job.active = some i → c.retired ≠ c.reported →
      let n : Notice :=
        .progress { cavity := i, chain := ref, h := s.engine.h, retired := c.retired, free := s.store.free, serial := c.serial }
      ((∃ old, Notice.progress old ∈ s.link.notices) →
        exec .pacingTimerExpiry s =
          .next
            (State.closed
              { u with
                link :=
                  { s.link with
                    notices := s.link.notices.map fun m => match m with
                      | .progress _ => n
                      | .event code content => .event code content } })) ∧
      ((∀ old, Notice.progress old ∉ s.link.notices) →
        exec .pacingTimerExpiry s =
          .next
            (State.closed
              { u with
                link :=
                  { s.link with
                    notices := if s.link.notices.length < 16 then s.link.notices ++ [n] else s.link.notices } }))) ∧
    (∀ (i : CavityId) (c : Cavity) (k : PassIx), (∀ d, s.activeChain = some d → d.retired = d.reported) →
      s.cavity i = some c → s.job.active ≠ some i → (c.passes[k]).chain.retired ≠ (c.passes[k]).chain.reported →
      (∀ (j : CavityId) (d : Cavity) (m : PassIx), s.cavity j = some d → j < i ∨ (j = i ∧ m < k) →
        (d.passes[m]).chain.retired = (d.passes[m]).chain.reported) →
      (∀ o, s.store.separation = some o → o.owner < i → o.chain.retired = o.chain.reported) →
      exec .pacingTimerExpiry s =
        .next
          (State.closed
            { u with
              link :=
                { s.link with
                  notices :=
                    offerNotice s.link.notices
                      (.progress
                        { cavity := i, chain := .pass k, h := (c.passes[k]).savedH, retired := (c.passes[k]).chain.retired
                          free := s.store.free, serial := (c.passes[k]).chain.serial }) } })) ∧
    (∀ o : OwnedChain, (∀ d, s.activeChain = some d → d.retired = d.reported) → s.store.separation = some o →
      (s.cavity o.owner).isSome = true → o.chain.retired ≠ o.chain.reported →
      (∀ (j : CavityId) (d : Cavity) (m : PassIx), s.cavity j = some d → j ≤ o.owner →
        (d.passes[m]).chain.retired = (d.passes[m]).chain.reported) →
      exec .pacingTimerExpiry s =
        .next
          (State.closed
            { u with
              link :=
                { s.link with
                  notices :=
                    offerNotice s.link.notices
                      (.progress
                        { cavity := o.owner, chain := .separation, h := o.chain.endOffset, retired := o.chain.retired
                          free := s.store.free, serial := o.chain.serial }) } })))

/-! ### Threading unit -/

/-- A threading begins at attempt 1, at ANNEAL or with anneal time 0 at TRIM, and for a HOLE purpose with the wire in after a
full SEVER (R107, R108). The steps of an attempt in a unit that is not suspended: ANNEAL to TRIM, the trim pulse to the home
wait or to POSITION, the home wait to POSITION or CUTTER_STUCK, JET to TENSION (R108 to R112, R116). POSITION over the wanted
place begins JET at once and otherwise starts a rapid move (R110, R111). That CUTTER_HOME and PASS_SENSE are raised at these
points of the step is the model's choice (notes/assumptions/10.md). -/
def Obligations.AttemptStepsFollow : Prop :=
  (∀ (s : State) (purpose : Purpose) (target : Point) (i : CavityId) (c : Cavity), s.cavity i = some c →
    let first : Attempting := { purpose := purpose, target := target, attempt := 1, cavity := i }
    (purpose = .kerf ∨ s.threading.wireIn = false →
      s.beginThreading purpose target i =
        { s with
          cavities := s.cavities.set i.val (some { c with attemptsUsed := 1 })
          threading := s.threading.attempting s.profiles[c.profile] first }) ∧
    (purpose ≠ .kerf → s.threading.wireIn = true →
      s.beginThreading purpose target i =
        { s with
          threading :=
            Threading.severing { s.threading with work := some first } s.profiles[c.profile] .full .preThread i })) ∧
  (∀ (s : State) (w : Attempting), s.operating = true → s.quiet → s.threading.restart = none → s.threading.work = some w →
    s.threading.sever = none →
    let profile := s.profileOf w.cavity
    let offset := profile.offsets.getD ((w.attempt - 1) % profile.offsets.length) ⟨0, 0⟩
    let shift : Point := if w.purpose = .kerf then ⟨0, 0⟩ else offset
    let want : Point :=
      ⟨max (-8388608) (min 8388607 (w.target.x + shift.x)), max (-8388608) (min 8388607 (w.target.y + shift.y))⟩
    let ceiling := match s.limits with
      | some l => l.jetCeil
      | none => 7
    let level :=
      if w.purpose = .kerf then min profile.kerfJet ceiling
      else min (min (profile.jetBase + (w.attempt - 1) * profile.jetStep) 7) ceiling
    let placed (u : State) : State :=
      if want = s.engine.commanded then
        { u with
          threading :=
            { u.threading with
              state := .jet, homeWait := false, timer := some profile.passTimeout
              out := { ThreadOut.off with jet := true, jetLevel := level, feedFwd := true } } }
      else
        { u with
          threading := { u.threading with state := .position, homeWait := false, timer := none, out := .off }
          engine :=
            { u.engine with
              state := .rapid, move := some (.rapid s.engine.commanded want 0 .position s.engine.state) } }
    (s.threading.state = .anneal →
      exec .annealExpiry s =
        .next
          (State.closed
            { s with
              threading :=
                { s.threading with
                  state := .trim, homeWait := false, timer := some profile.trim
                  out := { ThreadOut.off with cutter := true } } })) ∧
    (s.threading.state = .trim → s.threading.homeWait = false →
      exec (.trimPulseEnd false) s =
        .next
          (State.closed
            { s with
              pins := { s.pins with cutterHome := false }
              threading := { s.threading with homeWait := true, timer := some 500, out := .off } })) ∧
    (s.threading.state = .trim → s.threading.homeWait = false → s.engine.move = none → s.engine.state ≠ .rapid →
      exec (.trimPulseEnd true) s =
        .next (placed { s with pins := { s.pins with cutterHome := true } }).closed) ∧
    (s.threading.state = .trim → s.threading.homeWait = true → s.engine.move = none → s.engine.state ≠ .rapid →
      s.inert Event.cutterHome = true →
      exec .cutterHomeRise s =
        .next
          (placed (State.carried { s with pins := { s.pins with cutterHome := true } } Event.cutterHome 0)).closed) ∧
    (s.threading.state = .trim → s.threading.homeWait = true →
      exec .cutterHomeTimeout s =
        .next
          (State.finish false
            (State.raise
              { s with
                threading :=
                  { s.threading with homeWait := false, timer := none, restart := some .attempt, out := .off } }
              Event.cutterStuck 1))) ∧
    (s.threading.state = .jet → s.inert Event.passSense = true →
      exec .passSenseRise s =
        .next
          (State.closed
            (State.carried
              { s with
                pins := { s.pins with passSense := true }
                threading :=
                  { s.threading with
                    state := .tension, timer := some profile.tensionTimeout
                    out := { s.threading.out with tensionEngage := true } } }
              Event.passSense 0))))

/-- An edge that the unit does not wait for leaves it as it is and raises its code (R106): CUTTER_HOME is awaited in the home waits of
TRIM and SEVER alone. That a timer's end with no such timer running changes nothing is the model's choice (notes/assumptions/1.md). -/
def Obligations.UnawaitedEdgesOnlyRaise : Prop :=
  ∀ s : State, s.operating = true → s.quiet →
    (s.threading.state ≠ .jet ∨ s.threading.restart ≠ none → s.inert Event.passSense = true →
      exec .passSenseRise s =
        .next (State.carried { s with pins := { s.pins with passSense := true } } Event.passSense 0).closed) ∧
    (s.threading.state ≠ .tension ∨ s.threading.restart ≠ none → s.inert Event.tensionOk = true →
      exec .tensionSenseRise s =
        .next (State.carried { s with pins := { s.pins with tensionSense := true } } Event.tensionOk 0).closed) ∧
    (s.threading.state ∉ [.trim, .sever] ∨ s.threading.restart ≠ none → s.inert Event.cutterHome = true →
      exec .cutterHomeRise s =
        .next (State.carried { s with pins := { s.pins with cutterHome := true } } Event.cutterHome 0).closed) ∧
    ((s.threading.state = .trim ∧ s.threading.homeWait = false) ∨
        (s.threading.state = .sever ∧ ∀ v, s.threading.sever = some v → v.phase ≠ .homeWait) →
      s.inert Event.cutterHome = true →
      exec .cutterHomeRise s =
        .next (State.carried { s with pins := { s.pins with cutterHome := true } } Event.cutterHome 0).closed) ∧
    (s.threading.wireIn = false →
      exec .tensionSenseFall s = .next (State.closed { s with pins := { s.pins with tensionSense := false } })) ∧
    (∀ c ∈ [Instr.annealExpiry, .trimPulseEnd true, .trimPulseEnd false, .cutterHomeTimeout, .passTimeout, .tensionTimeout,
        .withdrawExpiry, .severPulseEnd true, .severPulseEnd false, .severWithdrawExpiry],
      s.threading.state ∈ [.idle, .position, .threaded, .failed] ∨ s.threading.restart ≠ none → exec c s = .next s) ∧
    (let own : List (Instr × List ThreadState) :=
      [(.annealExpiry, [.anneal]), (.trimPulseEnd true, [.trim]), (.trimPulseEnd false, [.trim]),
        (.cutterHomeTimeout, [.trim, .sever]), (.passTimeout, [.jet]), (.tensionTimeout, [.tension]),
        (.withdrawExpiry, [.withdraw]), (.severPulseEnd true, [.sever]), (.severPulseEnd false, [.sever]),
        (.severWithdrawExpiry, [.sever])]
     ∀ x ∈ own, s.threading.state ∉ x.2 → exec x.1 s = .next s)

/-- A failed attempt raises THREAD_FAIL with i and its cause and withdraws; the withdraw's end begins attempt i + 1, at ANNEAL or
with anneal time 0 at TRIM (R108, R113). After the last attempt THREAD_EXHAUSTED is raised: the cavity of a threading for cutting or
for recovery is FAULTED, that of one for separation RETAINED, while under SKIP the withdraw runs, whose end leaves the unit FAILED, and
under HALT the job halts with the unit stopped (R23, R37, R114, R121, R130, R155). A kerf threading goes on to TO_HOLE, whose move
waits for the end of the withdraw, and in a PAUSED job for its return (R129, R130, R135). A queued PROGRESS notice of a chain that
ceases so is dropped (R59, R61; notes/assumptions/25.md). That P, H and floor are stored as 0 without a chain is the model's choice
(notes/assumptions/18.md). -/
def Obligations.FailedAttemptsWithdraw : Prop :=
  ∀ (s : State) (w : Attempting), s.operating = true → s.quiet → s.threading.restart = none →
    let profile := s.profileOf w.cavity
    (s.threading.work = some w →
      let last := if w.purpose = .kerf then profile.kerfAttempts else profile.attempts
      let leaving (next : WithdrawThen) (t : Threading) : Threading := t.withdrawing profile { next := next, cavity := w.cavity }
      let stopped (e : Engine) : Engine :=
        { e with state := .idle, chain := none, p := 0, h := 0, floor := 0, move := none, resume := none }
      let halted (v : State) : State :=
        { v with
          job := { v.job with state := .halted, reasons := ⟨false, false, false, false⟩ }
          link := { v.link with heartbeat := none }
          engine := stopped v.engine, threading := v.threading.atRest, recovery := .idle
          retention := match v.retention.clamp with
            | .requested _ => { clamp := .free, clampReq := false, timer := none }
            | _ => v.retention }
      let cases : List (ThreadState × Instr × Nat) := [(.jet, .passTimeout, 1), (.tension, .tensionTimeout, 2)]
      ∀ x ∈ cases, s.threading.state = x.1 →
        let failed := s.raise Event.threadFail (w.attempt + 256 * x.2.2)
        (w.attempt < last →
          exec x.2.1 s = .next (State.finish false { failed with threading := leaving .nextAttempt s.threading })) ∧
        (∀ c, last ≤ w.attempt → w.purpose ≠ .kerf → s.job.active = some w.cavity → s.cavity w.cavity = some c →
          s.job.state = .running ∨ s.job.state = .paused →
          ∃ (u : State) (d : Cavity),
            let v := u.raiseFor (some w.cavity) Event.threadExhausted w.attempt
            exec x.2.1 s = .next (State.finish false (if s.params.faultPolicy = .halt then halted v else v)) ∧
              u.cavity w.cavity = some d ∧ d.attemptsUsed = 0 ∧ (∀ j, j ≠ w.cavity → u.cavity j = s.cavity j) ∧
              (w.purpose ≠ .separation →
                d.state = .faulted ∧ d.fault = (c.fault <|> some .threadExhausted) ∧ d.slots = 0 ∧
                  u.engine = stopped s.engine ∧
                  u.store.free =
                    s.store.free + c.slots + ownedSlots s.store.reroute w.cavity + ownedSlots s.store.separation w.cavity) ∧
              (w.purpose = .separation →
                d.state = .retained ∧ d.fault = c.fault ∧ u.engine = s.engine ∧ u.store.free = s.store.free ∧
                  (∀ o, s.store.separation = some o → o.owner = w.cavity → u.store.separation = none)) ∧
              u.job = { s.job with active := none } ∧ u.threading = leaving .failed { s.threading with work := none } ∧
              u.recovery = (if w.purpose = .recovery then .idle else s.recovery) ∧ u.runOrder = s.runOrder ∧
              u.link =
                { failed.link with
                  notices :=
                    if w.purpose = .separation then
                      dropReports .separation (ownedBy s.store.separation w.cavity) failed.link.notices
                    else s.withoutReportsOf w.cavity failed.link.notices } ∧
              u.log = failed.log ∧ u.raised = failed.raised) ∧
        (last ≤ w.attempt → w.purpose = .kerf →
          ∃ t : State, exec x.2.1 s = .next (t.finish false) ∧
            t.recovery = { s.recovery with stage := .toHole, inKerf := w.attempt } ∧
            t.threading = leaving .failed { s.threading with work := none } ∧ t.engine = s.engine ∧ t.job = s.job)) ∧
    (s.threading.state = .withdraw →
      let done (st : ThreadState) : Threading :=
        { s.threading with state := st, withdraw := none, timer := none, out := .off }
      let waiting : Prop := s.recovery.stage = .toHole ∧ s.engine.state = .broken
      (s.threading.withdraw = some { next := .nextAttempt, cavity := w.cavity } → s.threading.work = some w → ¬ waiting →
        s.job.active = some w.cavity →
        ∃ t : State, exec .withdrawExpiry s = .next t.closed ∧
          t.threading =
            Threading.attempting { s.threading with withdraw := none } profile { w with attempt := w.attempt + 1 } ∧
          t.cavity w.cavity = (s.cavity w.cavity).map (fun c => { c with attemptsUsed := w.attempt + 1 }) ∧
          (∀ j, j ≠ w.cavity → t.cavity j = s.cavity j) ∧ t.engine = s.engine ∧ t.job = s.job ∧ t.store = s.store ∧
          t.recovery = s.recovery ∧ t.sameSettings s) ∧
      (∀ k, s.threading.withdraw = some { next := .failed, cavity := k } → ¬ waiting →
        exec .withdrawExpiry s = .next (State.finish false { s with threading := done .failed })) ∧
      (∀ k, s.threading.withdraw = some { next := .idle, cavity := k } → ¬ waiting →
        exec .withdrawExpiry s = .next (State.finish false { s with threading := done .idle })) ∧
      (∀ (k i : CavityId) (c : Cavity), s.threading.withdraw = some { next := .failed, cavity := k } → waiting →
        s.job.active = some i → s.cavity i = some c →
        (s.job.state = .paused →
          exec .withdrawExpiry s =
            .next
              (State.closed
                { s with threading := done .failed, recovery := { s.recovery with startPending := true } })) ∧
        (s.job.state ≠ .paused → s.engine.commanded ≠ c.hole → s.engine.move = none →
          exec .withdrawExpiry s =
            .next
              (State.closed
                { s with
                  threading := done .failed
                  engine :=
                    { s.engine with
                      state := .rapid, move := some (.rapid s.engine.commanded c.hole 0 .toHole .broken) } })) ∧
        (s.job.state ≠ .paused → s.engine.commanded = c.hole → s.threading.wireIn = false →
          exec .withdrawExpiry s =
            .next
              (State.closed
                { s with
                  recovery := { s.recovery with stage := .holeThread }
                  cavities := s.cavities.set i.val (some { c with attemptsUsed := 1 })
                  threading :=
                    (done .failed).attempting s.profiles[c.profile]
                      { purpose := .recovery, target := c.hole, attempt := 1, cavity := i } }))))

/-- A SEVER: the pulse ends in the home wait or, for the full form with the cutter home, in the withdraw phase; the home wait ends
there too or in CUTTER_STUCK; the withdraw's end leaves the unit IDLE, and the SEVER after a last pass makes the cavity RETAINED
for BRIDGE and DONE otherwise (R28, R115, R116). The SEVER before a HOLE threading ends in its first attempt, at ANNEAL or with
anneal time 0 at TRIM (R107, R108). The stub SEVER of a recovery ends in the kerf threading at the break point, or, for a
profile without kerf attempts, in TO_HOLE with its move, which waits for the return of a PAUSED job (R128, R130, R135). That
CUTTER_HOME is raised before the withdraw phase is the model's choice (notes/assumptions/10.md). -/
def Obligations.SeverRunsItsPhases : Prop :=
  ∀ (s : State) (v : Severing), s.operating = true → s.quiet → s.threading.state = .sever → s.threading.restart = none →
    s.threading.sever = some v →
    let profile := s.profileOf v.cavity
    let pulling (u : State) : State :=
      { u with
        threading :=
          { u.threading with
            state := .sever, sever := some { v with phase := .withdraw }, timer := some profile.withdraw
            out := { ThreadOut.off with feedRev := true } } }
    let ended : Threading := { s.threading with state := .idle, sever := none, timer := none, out := .off }
    (v.phase = .pulse → v.form = .stub → v.purpose = .stubCut →
      ∀ (i : CavityId) (c : Cavity) (b : PathPoint), s.job.active = some i → s.cavity i = some c → s.recovery.breakPoint = some b →
        let home : State := { s with pins := { s.pins with cutterHome := true } }
        (0 < (s.profiles[c.profile]).kerfAttempts →
          exec (.severPulseEnd true) s =
            .next
              (State.closed
                { home with
                  recovery := { s.recovery with stage := .kerfThread }
                  cavities := s.cavities.set i.val (some { c with attemptsUsed := 1 })
                  threading :=
                    ended.attempting s.profiles[c.profile]
                      { purpose := .kerf, target := b.pos, attempt := 1, cavity := i } })) ∧
        ((s.profiles[c.profile]).kerfAttempts = 0 → s.job.state = .running → s.engine.move = none →
          s.engine.commanded ≠ c.hole →
          exec (.severPulseEnd true) s =
            .next
              (State.closed
                { home with
                  recovery := { s.recovery with stage := .toHole }, threading := ended
                  engine :=
                    { s.engine with
                      state := .rapid
                      move := some (.rapid s.engine.commanded c.hole 0 .toHole s.engine.state) } })) ∧
        ((s.profiles[c.profile]).kerfAttempts = 0 → s.job.state = .paused →
          exec (.severPulseEnd true) s =
            .next
              (State.closed
                { home with
                  recovery := { s.recovery with stage := .toHole, startPending := true }, threading := ended }))) ∧
    (v.phase = .pulse →
      exec (.severPulseEnd false) s =
        .next
          (State.closed
            { s with
              pins := { s.pins with cutterHome := false }
              threading :=
                { s.threading with
                  homeWait := false, sever := some { v with phase := .homeWait }, timer := some 500, out := .off } }) ∧
      (v.form = .full →
        exec (.severPulseEnd true) s = .next (pulling { s with pins := { s.pins with cutterHome := true } }).closed) ∧
      (v.form = .stub → v.purpose = .machine →
        exec (.severPulseEnd true) s =
          .next
            (State.finish false { s with pins := { s.pins with cutterHome := true }, threading := ended }))) ∧
    (v.phase = .homeWait →
      (v.form = .full → s.inert Event.cutterHome = true →
        exec .cutterHomeRise s =
          .next
            (pulling (State.carried { s with pins := { s.pins with cutterHome := true } } Event.cutterHome 0)).closed) ∧
      exec .cutterHomeTimeout s =
        .next
          (State.finish false
            (State.raise
              { s with
                threading :=
                  { s.threading with homeWait := false, timer := none, restart := some .cutPhase, out := .off } }
              Event.cutterStuck 2))) ∧
    (v.phase = .withdraw →
      (v.purpose = .machine →
        exec .severWithdrawExpiry s = .next (State.finish false { s with threading := ended })) ∧
      (∀ w c, v.purpose = .preThread → s.threading.work = some w → s.cavity w.cavity = some c → s.job.active = some w.cavity →
        exec .severWithdrawExpiry s =
          .next
            (State.closed
              { s with
                cavities := s.cavities.set w.cavity.val (some { c with attemptsUsed := w.attempt })
                threading := ended.attempting s.profiles[c.profile] w })) ∧
      (∀ c, s.cavity v.cavity = some c → s.job.active = some v.cavity → v.purpose = .lastPass →
        ∃ (t : State) (d : Cavity), exec .severWithdrawExpiry s = .next (t.finish false) ∧ t.threading = ended ∧
          t.job = { s.job with active := none } ∧ t.engine = s.engine ∧ t.cavity v.cavity = some d ∧
          (∀ j, j ≠ v.cavity → t.cavity j = s.cavity j) ∧
          (c.effective = some .bridge →
            d.state = .retained ∧ d.leadIn = c.leadIn ∧ d.bridge = c.bridge ∧ d.slots = c.leadIn.length + c.bridge.length ∧
              t.store.free + d.slots = s.store.free + c.slots ∧ t.raised = [] ∧ t.log = s.log) ∧
          (c.effective ≠ some .bridge →
            d.state = .done ∧ d.slots = 0 ∧ t.raised.map (fun r => r.code) = [Event.cavityDone] ∧
              t.store.free =
                s.store.free + c.slots + ownedSlots s.store.reroute v.cavity + ownedSlots s.store.separation v.cavity)) ∧
      (∀ c, s.cavity v.cavity = some c → s.job.active = some v.cavity → v.purpose = .separation →
        ∃ (t : State) (d : Cavity), exec .severWithdrawExpiry s = .next (t.finish false) ∧ t.threading = ended ∧
          t.job = { s.job with active := none } ∧ t.cavity v.cavity = some d ∧ d.state = .done ∧ d.slots = 0 ∧
          t.store.separation = withoutOwner s.store.separation v.cavity ∧
          (∀ o, s.store.separation = some o → o.owner = v.cavity →
            ∀ x, Notice.progress x ∈ t.link.notices → x.chain = .separation → x.serial ≠ o.chain.serial) ∧
          t.raised.map (fun r => r.code) = [Event.cavityDone]))

/-- TENSION_SENSE rising in TENSION ends a threading in success: WIRE_IN, THREADED. For cutting the cavity is CUTTING, and pass 0
starts at P 0 with the retrace depth of the job, its first three segments engaged, in CUTTING, or STARVED while it has none, after a
seat move where the wire stands elsewhere, or at once at a hold of offset 0 (R79, R80, R81, R112, R121). For a kerf threading the dry
retrace begins, or RESUMING (R129); for a rethread at the hole REROUTE_NEEDED is raised (R130, R131); for separation its chain starts
(R153). That TENSION_OK is raised before what the success begins is the model's choice (notes/assumptions/10.md). Falling with
WIRE_IN set TENSION_SENSE raises WIRE_LOST (R106, R117). -/
def Obligations.TensionEndsThreading : Prop :=
  (∀ (s : State) (w : Attempting) (c : Cavity), s.operating = true → s.quiet → s.threading.state = .tension →
    s.threading.restart = none → s.threading.work = some w → w.purpose = .cutting → s.job.active = some w.cavity →
    s.cavity w.cavity = some c → s.engine.commanded = c.hole →
    let ch := (c.passes[(0 : PassIx)]).chain
    let started : Engine :=
      { s.engine with
        state := .cutting, chain := some (.pass 0), p := 0, h := 0, floor := 0, prevStep := 0, run := 0, reference := none
        move := none, resume := none }
    ch.appended = 0 ∨ ch.holdOffset ≠ some 0 →
    ∃ (t : State) (d : Cavity), exec .tensionSenseRise s = .next (t.finish false) ∧
      t.threading =
        { s.threading with
          state := .threaded, wireIn := true, work := none, timer := none
          out := { ThreadOut.off with tensionEngage := true } } ∧
      t.job = s.job ∧ t.cavity w.cavity = some d ∧ d.state = .cutting ∧ d.attemptsUsed = 0 ∧ d.effective = c.effective ∧
      (d.passes[(0 : PassIx)]).state = .active ∧
      (d.passes[(0 : PassIx)]).chain = { ch with depth := s.params.retrace, segs := (ch.engage 0).segs } ∧
      (0 < ch.appended → t.engine = started ∧ t.raised.map (fun r => r.code) = [Event.tensionOk]) ∧
      (ch.appended = 0 →
        t.engine = { started with state := .starved } ∧
          t.raised.map (fun r => r.code) = [Event.tensionOk, Event.starved])) ∧
  (∀ (s : State) (w : Attempting) (c : Cavity), s.operating = true → s.quiet → s.threading.state = .tension →
    s.threading.restart = none → s.threading.work = some w → s.job.active = some w.cavity → s.cavity w.cavity = some c →
    let ended (recovery : Recovery) (engine : Engine) (d : Cavity) : State :=
      { State.raise { s with pins := { s.pins with tensionSense := true } } Event.tensionOk 0 with
        threading :=
          { s.threading with
            state := .threaded, wireIn := true, work := none, timer := none
            out := { ThreadOut.off with tensionEngage := true } }
        cavities := s.cavities.set w.cavity.val (some { d with attemptsUsed := 0 })
        recovery := recovery, engine := engine }
    let atOrigin (ref : ChainRef) : Engine :=
      { s.engine with
        state := .cutting, chain := some ref, p := 0, h := 0, floor := 0, prevStep := 0, run := 0, reference := none
        move := none, resume := none }
    let seated (ref : ChainRef) : Engine :=
      if s.engine.commanded = c.hole then atOrigin ref
      else
        { atOrigin ref with
          state := .rapid, move := some (.rapid s.engine.commanded c.hole 0 .chainSeat .cutting) }
    let begun (x : Chain) : Chain := { x with depth := s.params.retrace, segs := (x.engage 0).segs }
    (∀ rp, w.purpose = .kerf → s.recovery.resumePoint = some rp →
      (rp.offset < s.engine.p →
        exec .tensionSenseRise s =
          .next
            (State.finish false
              (ended { s.recovery with inKerf := w.attempt }
                { s.engine with state := .rapid, move := some (.traverse rp.offset) } c))) ∧
      (s.engine.p ≤ rp.offset →
        exec .tensionSenseRise s =
          .next (State.finish false (ended { s.recovery with inKerf := w.attempt } s.engine c).enterResuming))) ∧
    (w.purpose = .recovery →
      exec .tensionSenseRise s =
        .next
          (State.finish false
            ((ended { s.recovery with stage := .awaitReroute } s.engine c).raise Event.rerouteNeeded
              (c.breakCount + 256 * s.recovery.inKerf)))) ∧
    (∀ o, w.purpose = .separation → s.store.separation = some o → 0 < o.chain.appended →
      exec .tensionSenseRise s =
        .next
          (State.finish false
            { ended s.recovery (seated .separation) c with
              store := { s.store with separation := some { o with chain := begun o.chain } } })) ∧
    (w.purpose = .cutting → 0 < (c.passes[(0 : PassIx)]).chain.appended →
      let rough : PassRec := { c.passes[(0 : PassIx)] with state := .active, chain := begun (c.passes[(0 : PassIx)]).chain }
      let cut : Cavity := { c with state := .cutting, passes := c.passes.set 0 rough }
      (s.engine.commanded ≠ c.hole →
        exec .tensionSenseRise s = .next (State.finish false (ended s.recovery (seated (.pass 0)) cut))) ∧
      (s.engine.commanded = c.hole → (c.passes[(0 : PassIx)]).chain.holdOffset = some 0 → c.planned ≠ .none →
        c.effective = none →
        exec .tensionSenseRise s =
          .next (State.finish false (settle (ended s.recovery (atOrigin (.pass 0)) cut).reachHold))))) ∧
  (∀ s : State, s.operating = true → s.quiet → s.threading.wireIn = true →
    exec .tensionSenseFall s =
      .next
        (State.finish false
          (State.raise { s with pins := { s.pins with tensionSense := false } } Event.wireLost 0)))

/-! ### Recovery unit and retention unit -/

/-- A BREAK of a CUTTING cavity below its limit: the engine BROKEN with its chain, WIRE_IN clear and the stub SEVER begun, or waiting
for the return of a PAUSED job, the cavity in BREAK_RECOVERY with one break more, a clamp request withdrawn, the break point at P
and the resume point there or, under AT_SEGMENT_START, at the segment's start or the floor; at the hold for a pass AT_HOLD, one
completed in a pause, and an engine in CLAMP_WAIT (R97, R123, R124, R125, R128, R135). It is not taken without the wire or without
an active cavity (R123); at the limit the cavity is FAULTED (R126). A break during recovery leads to TO_HOLE, at once or at the resume,
and discards the reroute chain (R59, R134, R135); one of a separation faults the cavity (R127). The reroute chain starts at the hole
and saves P and H of the pass (R97, R131); at its end its slots are free and RESUMING begins (R96, R132). Discarded or ended, it
ceases, and its queued PROGRESS notice is dropped (R59, R61; notes/assumptions/25.md). RESUMING waits for a PAUSED
job, moves to the resume point, and restores the pass there, or completes it where its CLOSE has come (R82, R133, R135). That P, H
and floor are stored as 0 without a chain is the model's choice (notes/assumptions/18.md). -/
def Obligations.FirstBreakBeginsRecovery : Prop :=
  (∀ (s : State) (i : CavityId) (c : Cavity) (k : PassIx), s.threading.wireIn = true → s.job.active = some i →
    s.cavity i = some c → c.state = .cutting → s.engine.chain = some (.pass k) →
    let p := c.passes[k]
    let hold : PathPoint := { offset := p.chain.holdOffset.getD s.engine.p, pos := p.chain.holdPoint }
    let atHold : Prop :=
      p.state = .atHold ∨ p.state = .complete ∨ s.engine.state = .clampWait ∨
        (s.engine.state = .paused ∧ s.engine.resume = some .clampWait)
    (c.breakCount + 1 < s.params.breakLimit → s.job.state = .running ∨ s.job.state = .paused →
      ∃ (t : State) (d : Cavity) (b rp : PathPoint), s.takeBreak = t ∧
        t.engine = { s.engine with state := .broken, move := none, resume := none } ∧
        (s.job.state = .running →
          t.threading =
            { s.threading with
              state := .sever, wireIn := false, withdraw := none, restart := none
              sever := some { form := .stub, phase := .pulse, purpose := .stubCut, cavity := i }
              timer := some (s.profileOf i).trim, out := { ThreadOut.off with cutter := true } }) ∧
        (s.job.state = .paused →
          t.threading =
            { s.threading with
              wireIn := false, state := if s.threading.state = .threaded then .idle else s.threading.state
              out := { s.threading.out with tensionEngage := false } }) ∧
        t.cavity i = some d ∧ d = { c with state := .breakRecovery, breakCount := c.breakCount + 1 } ∧
        (∀ j, j ≠ i → t.cavity j = s.cavity j) ∧
        t.recovery =
          { stage := .stubCut, breakPoint := some b, resumePoint := some rp, inKerf := 0
            closePending := decide (p.state = .complete), startPending := decide (s.job.state = .paused) } ∧
        b = (if p.state = .complete then hold else { offset := s.engine.p, pos := s.positionAt (.pass k) s.engine.p }) ∧
        (atHold → rp = hold) ∧ (¬ atHold → s.params.resumePolicy = .atBreak → rp = b) ∧
        (∀ g, ¬ atHold → s.params.resumePolicy = .atSegmentStart → p.chain.containing s.engine.p = some g →
          rp.offset = max g.s0 s.engine.floor ∧ rp.pos = g.position (max g.s0 s.engine.floor)) ∧
        (¬ atHold → p.chain.containing s.engine.p = none → rp = b) ∧
        t.retention =
          (if s.retention.clamp = .requested i then { clamp := .free, clampReq := false, timer := none } else s.retention) ∧
        t.job = s.job ∧ t.store = s.store ∧ t.raised = s.raised ∧ t.link = s.link ∧ t.runOrder = s.runOrder ∧
        t.sepQueue = s.sepQueue ∧ t.sameSettings s) ∧
    (s.params.breakLimit ≤ c.breakCount + 1 → s.params.faultPolicy = .skip → s.job.state = .running →
      s.threading.state ≠ .sever →
      ∃ (t : State) (d : Cavity), s.takeBreak = t ∧ t.cavity i = some d ∧ d.state = .faulted ∧
        d.fault = (c.fault <|> some .breakLimit) ∧ d.breakCount = c.breakCount + 1 ∧ d.slots = 0 ∧ t.engine.state = .idle ∧
        t.engine.chain = none ∧ t.recovery = .idle ∧ t.threading.wireIn = false ∧ t.threading.state = .sever ∧
        t.job = { s.job with active := none } ∧
        (t.raised.map fun r => r.code) = (s.raised.map fun r => r.code) ++ [Event.breakLimit]) ∧
    (s.params.breakLimit ≤ c.breakCount + 1 → s.params.faultPolicy = .skip → s.job.state = .paused →
      s.threading.state ≠ .sever →
      ∃ (t : State) (d : Cavity), s.takeBreak = t ∧ t.cavity i = some d ∧ d.state = .faulted ∧
        d.fault = (c.fault <|> some .breakLimit) ∧ d.breakCount = c.breakCount + 1 ∧ d.slots = 0 ∧ t.engine.state = .idle ∧
        t.engine.chain = none ∧ t.recovery = .idle ∧ t.threading.wireIn = false ∧
        t.threading.deferred = some (.sever i) ∧ t.job = { s.job with active := none } ∧
        (t.raised.map fun r => r.code) = (s.raised.map fun r => r.code) ++ [Event.breakLimit]) ∧
    (s.params.breakLimit ≤ c.breakCount + 1 → s.params.faultPolicy = .halt → s.job.state = .running ∨ s.job.state = .paused →
      ∃ (t : State) (d : Cavity), s.takeBreak = t ∧ t.cavity i = some d ∧ d.state = .faulted ∧
        d.fault = (c.fault <|> some .breakLimit) ∧ d.breakCount = c.breakCount + 1 ∧ d.slots = 0 ∧ t.engine.state = .idle ∧
        t.engine.chain = none ∧ t.recovery = .idle ∧
        t.threading =
          { s.threading with
            state := .idle, wireIn := false, work := none, homeWait := false, sever := none, withdraw := none, timer := none
            restart := none, deferred := none, out := .off } ∧
        t.job = { s.job with state := .halted, reasons := ⟨false, false, false, false⟩, active := none } ∧
        t.link.heartbeat = none ∧
        (t.raised.map fun r => r.code) = (s.raised.map fun r => r.code) ++ [Event.breakLimit])) ∧
  (∀ (s : State) (i : CavityId) (c : Cavity), s.threading.wireIn = true → s.job.active = some i → s.cavity i = some c →
    let k := c.currentPass
    let p := c.passes[k]
    let loose : Threading :=
      { s.threading with
        wireIn := false, state := if s.threading.state = .threaded then .idle else s.threading.state
        out := { s.threading.out with tensionEngage := false } }
    let broken : Engine := { s.engine with state := .broken, move := none, resume := none }
    let onPass : Engine :=
      if s.engine.chain = some .reroute then
        { broken with
          chain := some (.pass k), p := p.savedP, h := p.savedH, floor := p.chain.floorAt p.savedP p.savedH }
      else broken
    let again (pending : Bool) (e : Engine) : State :=
      { s with
        threading := loose, engine := e
        cavities := s.cavities.set i.val (some { c with breakCount := c.breakCount + 1 })
        store := { s.store with free := s.store.free + heldBy s.store.reroute, reroute := none }
        link := { s.link with notices := dropReports .reroute s.store.reroute s.link.notices }
        recovery := { s.recovery with stage := .toHole, startPending := pending } }
    (c.state = .breakRecovery → s.recovery.stage ∈ [.kerfThread, .awaitReroute, .reroute, .resuming] →
      (c.breakCount + 1 < s.params.breakLimit →
        (s.job.state = .running → s.engine.commanded ≠ c.hole →
          s.takeBreak =
            again false
              { onPass with state := .rapid, move := some (.rapid s.engine.commanded c.hole 0 .toHole .broken) }) ∧
        (s.job.state = .paused → s.takeBreak = again true onPass)) ∧
      (s.params.breakLimit ≤ c.breakCount + 1 → s.params.faultPolicy = .skip → s.job.state = .running →
        s.threading.state ≠ .sever →
        ∃ (t : State) (d : Cavity), s.takeBreak = t ∧ t.cavity i = some d ∧ d.state = .faulted ∧
          d.fault = (c.fault <|> some .breakLimit) ∧ d.breakCount = c.breakCount + 1 ∧ d.slots = 0 ∧
          t.store.reroute = none ∧
          t.store.free = s.store.free + c.slots + heldBy s.store.reroute + ownedSlots s.store.separation i ∧
          t.engine.state = .idle ∧ t.engine.chain = none ∧ t.recovery = .idle ∧ t.threading.wireIn = false ∧
          t.threading.state = .sever ∧ t.job = { s.job with active := none } ∧
          (t.raised.map fun r => r.code) = (s.raised.map fun r => r.code) ++ [Event.breakLimit])) ∧
    (c.state = .breakRecovery → s.recovery.stage ∈ [.none, .stubCut, .toHole, .holeThread] → s.takeBreak = s) ∧
    (c.state = .separating → s.threading.state ≠ .sever →
      ∃ (t : State) (d : Cavity), s.takeBreak = t ∧ t.cavity i = some d ∧ d.state = .faulted ∧
        d.fault = (c.fault <|> some .separationBreak) ∧ d.breakCount = c.breakCount ∧ d.slots = 0 ∧
        t.store.separation = withoutOwner s.store.separation i ∧
        t.store.free = s.store.free + c.slots + ownedSlots s.store.reroute i + ownedSlots s.store.separation i ∧
        t.engine =
          { s.engine with state := .idle, chain := none, p := 0, h := 0, floor := 0, move := none, resume := none } ∧
        t.recovery = s.recovery ∧ t.job = { s.job with active := none } ∧ t.raised = s.raised ∧ t.threading.wireIn = false ∧
        t.link = { s.link with notices := s.withoutReportsOf i s.link.notices } ∧
        (s.job.state = .paused → t.threading.deferred = some (.sever i)) ∧
        (s.job.state ≠ .paused →
          t.threading.state = .sever ∧
            t.threading.sever = some { form := .full, phase := .pulse, purpose := .machine, cavity := i }) ∧
        t.sameSettings s)) ∧
  (∀ (s : State) (i : CavityId) (c : Cavity), s.job.active = some i → s.cavity i = some c →
    let k := c.currentPass
    let p := c.passes[k]
    let ch := p.chain
    let stageAt (st : Stage) (pending : Bool) : Recovery := { s.recovery with stage := st, startPending := pending }
    (∀ o, s.store.reroute = some o → 0 < o.chain.appended →
      let started (st : EngineState) (move : Option Move) : State :=
        { s with
          cavities :=
            s.cavities.set i.val
              (some { c with passes := c.passes.set k.val { p with savedP := s.engine.p, savedH := s.engine.h } })
          store :=
            { s.store with
              reroute :=
                some { o with chain := { o.chain with depth := s.params.retrace, segs := (o.chain.engage 0).segs } } }
          engine :=
            { s.engine with
              state := st, chain := some .reroute, p := 0, h := 0, floor := 0, prevStep := 0, run := 0, reference := none
              move := move, resume := none } }
      (s.engine.commanded = c.hole → s.startReroute = started .cutting none) ∧
      (s.engine.commanded ≠ c.hole →
        s.startReroute = started .rapid (some (.rapid s.engine.commanded c.hole 0 .chainSeat .cutting)))) ∧
    (∀ o, s.store.reroute = some o → s.engine.chain = some .reroute →
      s.chainEnd =
        State.enterResuming
          { s with
            store := { s.store with free := s.store.free + o.chain.segs.length, reroute := none }
            link := { s.link with notices := dropReports .reroute (some o) s.link.notices }
            engine :=
              { s.engine with
                state := .broken, move := none, resume := none, chain := some (.pass k), p := p.savedP, h := p.savedH
                floor := ch.floorAt p.savedP p.savedH } }) ∧
    (∀ rp, s.recovery.resumePoint = some rp →
      (s.job.state = .paused → s.enterResuming = { s with recovery := stageAt .resuming true }) ∧
      (s.job.state ≠ .paused → s.engine.commanded = rp.pos →
        s.enterResuming = State.resumeNow { s with recovery := { s.recovery with stage := .resuming } }) ∧
      (s.job.state ≠ .paused → s.engine.commanded ≠ rp.pos → s.engine.move = none →
        s.enterResuming =
          { s with
            recovery := { s.recovery with stage := .resuming }
            engine :=
              { s.engine with
                state := .rapid
                move := some (.rapid s.engine.commanded rp.pos 0 .restoreSeat s.engine.state) } }) ∧
      (s.recovery.closePending = false →
        let restored : State :=
          { s with
            cavities :=
              s.cavities.set i.val
                (some { c with state := .cutting, passes := c.passes.set k.val { p with chain := ch.engage rp.offset } })
            recovery := .idle
            engine :=
              { s.engine with
                state := .cutting, chain := some (.pass k), p := rp.offset, floor := ch.floorAt rp.offset s.engine.h
                prevStep := 0, run := 0, reference := none, move := none, resume := none
                commanded := s.positionAt (.pass k) rp.offset } }
        let starving : State :=
          State.raise { restored with engine := { restored.engine with state := .starved } } Event.starved ch.nextSeq
        let holds : Prop :=
          ((k = 0 ∧ c.planned ≠ .none ∧ c.effective = none) ∨ (k ≠ 0 ∧ c.effective = some .bridge)) ∧
            ch.holdOffset = some rp.offset
        (p.state = .atHold → s.resumeNow = starving) ∧
        (p.state ≠ .atHold → ch.closed = false → rp.offset = ch.endOffset → s.resumeNow = starving) ∧
        (p.state ≠ .atHold → ¬ (ch.closed = false ∧ rp.offset = ch.endOffset) → holds →
          s.resumeNow = settle restored.reachHold) ∧
        (p.state ≠ .atHold → ¬ (ch.closed = false ∧ rp.offset = ch.endOffset) → ¬ holds → s.resumeNow = restored)) ∧
      (s.recovery.closePending = true →
        let o := ch.holdOffset.getD rp.offset
        let closing : State :=
          { s with
            cavities := s.cavities.set i.val (some { c with state := .cutting }), recovery := .idle
            engine := { s.engine with chain := some (.pass k), p := o, h := o, move := none, resume := none } }
        (p.state = .complete → s.resumeNow = settle (closing.nextPass k)) ∧
        (p.state ≠ .complete → s.resumeNow = State.completePasses 4 closing)))) ∧
  (∀ s : State, s.threading.wireIn = false ∨ s.job.active = none → s.takeBreak = s)

/-- CLAMP_SENSE rising confirms a standing request: HELD, method CLAMP, the engine out of CLAMP_WAIT, or to resume in CUTTING where
it is PAUSED out of it, CLAMP_OK with detail 1; otherwise the code alone with detail 0 (R92, R142, R146). Falling while HELD it raises CLAMP_LOST for the holder (R148). The wait's
expiry, and a hold reached with the clamp not FREE, degrade the cavity: method BRIDGE, RETENTION_DEGRADED with the cause, each skim
chain appended moved to its bridged origin, the bridge parked; a skim that would leave the plane faults it for GEOMETRY instead
(R57, R93, R141, R143, R144, R145). That an expiry without a running timer or a request changes nothing is the model's choice
(notes/assumptions/1.md), and so is that P, H and floor are stored as 0 without a chain (notes/assumptions/18.md). -/
def Obligations.ClampSensorAndWait : Prop :=
  (∀ s : State, s.operating = true → s.quiet →
    let sensed : State := { s with pins := { s.pins with clampSense := true } }
    (∀ (i : CavityId) (c : Cavity), s.retention.clamp = .requested i → s.cavity i = some c → s.engine.state = .clampWait →
      let u : State :=
        { sensed with
          retention := { s.retention with clamp := .held i, timer := none }
          cavities := s.cavities.set i.val (some { c with effective := some .clamp })
          engine := { s.engine with state := .cutting, prevStep := 0, run := 0, reference := none } }
      s.inert Event.clampOk = true → exec .clampSenseRise s = .next (u.carried Event.clampOk 1).closed) ∧
    (∀ (i : CavityId) (c : Cavity), s.retention.clamp = .requested i → s.cavity i = some c → s.engine.state = .paused →
      s.engine.resume = some .clampWait →
      let u : State :=
        { sensed with
          retention := { s.retention with clamp := .held i, timer := none }
          cavities := s.cavities.set i.val (some { c with effective := some .clamp })
          engine := { s.engine with resume := some .cutting } }
      s.inert Event.clampOk = true → exec .clampSenseRise s = .next (u.carried Event.clampOk 1).closed) ∧
    ((∀ i, s.retention.clamp ≠ .requested i) → s.inert Event.clampOk = true →
      exec .clampSenseRise s = .next (sensed.carried Event.clampOk 0).closed) ∧
    (∀ i, s.retention.clamp = .held i → s.inert Event.clampLost = true →
      exec .clampSenseFall s =
        .next (State.carried { s with pins := { s.pins with clampSense := false } } Event.clampLost i.val).closed) ∧
    ((∀ i, s.retention.clamp ≠ .held i) →
      exec .clampSenseFall s = .next (State.closed { s with pins := { s.pins with clampSense := false } })) ∧
    (s.retention.timer = none ∨ (∀ i, s.retention.clamp ≠ .requested i) → exec .clampWaitExpiry s = .next s)) ∧
  (∀ (s : State) (i : CavityId) (c : Cavity) (o : Nat), s.operating = true → s.quiet → s.retention.clamp = .requested i →
    s.retention.timer.isSome = true → s.job.active = some i → s.cavity i = some c → s.engine.state = .clampWait →
    (c.passes[(0 : PassIx)]).chain.closed = false → (c.passes[(0 : PassIx)]).chain.holdOffset = some o →
    (∀ k : PassIx, k ≠ 0 → (c.passes[k]).chain.appended = 0 ∧ (c.passes[k]).chain.segs = []) →
    ∃ (t : State) (d : Cavity), exec .clampWaitExpiry s = .next (t.finish false) ∧
      t.retention = { clamp := .free, clampReq := false, timer := none } ∧
      t.engine = { s.engine with state := .starved } ∧
      t.raised.map (fun r => r.code) = [Event.retentionDegraded, Event.starved] ∧ t.cavity i = some d ∧
      d.effective = some .bridge ∧ (d.passes[(0 : PassIx)]).state = .atHold ∧
      (d.passes[(0 : PassIx)]).chain.segs = (c.passes[(0 : PassIx)]).chain.segs.filter (fun g => decide (g.s0 < o)) ∧
      d.bridge =
        c.bridge ++
          ((c.passes[(0 : PassIx)]).chain.segs.filter (fun g => decide (o ≤ g.s0))).map (fun g => { g with state := .parked }) ∧
      t.store = s.store ∧ t.job = s.job) ∧
  (∀ (s : State) (i : CavityId) (c : Cavity), s.job.active = some i → s.cavity i = some c →
    let c0 := (c.passes[(0 : PassIx)]).chain
    let c1 := (c.passes[(1 : PassIx)]).chain
    let c2 := (c.passes[(2 : PassIx)]).chain
    let c3 := (c.passes[(3 : PassIx)]).chain
    let plus (a d : Point) : Point := ⟨a.x + d.x, a.y + d.y⟩
    let minus (a b : Point) : Point := ⟨a.x - b.x, a.y - b.y⟩
    let moved (d : Point) (x : Chain) : Chain :=
      if x.appended = 0 then x
      else
        { x with
          segs := x.segs.map fun g => { g with start := plus g.start d, stop := plus g.stop d }
          holdPoint := if x.holdOffset.isSome = true then plus x.holdPoint d else x.holdPoint
          endPoint := plus x.endPoint d }
    let n1 := moved (minus c0.holdPoint c0.endPoint) c1
    let n2 := moved (minus n1.holdPoint c1.endPoint) c2
    let n3 := moved (minus n2.holdPoint c2.endPoint) c3
    let onPlane : Prop :=
      ∀ g ∈ n1.segs ++ n2.segs ++ n3.segs,
        -8388608 ≤ g.stop.x ∧ g.stop.x ≤ 8388607 ∧ -8388608 ≤ g.stop.y ∧ g.stop.y ≤ 8388607
    let bridged : Cavity :=
      { c with
        effective := some .bridge
        passes :=
          #v[c.passes[(0 : PassIx)], { c.passes[(1 : PassIx)] with chain := n1 }, { c.passes[(2 : PassIx)] with chain := n2 },
            { c.passes[(3 : PassIx)] with chain := n3 }] }
    let u : State := { s with cavities := s.cavities.set i.val (some bridged) }
    (∀ cause : Nat, onPlane → s.degrade cause = (u.raise Event.retentionDegraded cause).parkBridge) ∧
    (∀ (cause o : Nat), onPlane → c0.holdOffset = some o → s.engine.state ≠ .starved →
      ∃ (t : State) (d : Cavity), s.degrade cause = (t, c0.closed) ∧ t.cavity i = some d ∧ d.effective = some .bridge ∧
        (d.passes[(0 : PassIx)]).state = .atHold ∧
        (d.passes[(0 : PassIx)]).chain = { c0 with segs := c0.segs.filter fun g => decide (g.s0 < o) } ∧
        (d.passes[(1 : PassIx)]).chain = n1 ∧ (d.passes[(2 : PassIx)]).chain = n2 ∧ (d.passes[(3 : PassIx)]).chain = n3 ∧
        d.bridge = c.bridge ++ (c0.segs.filter fun g => decide (o ≤ g.s0)).map (fun g => { g with state := .parked }) ∧
        d.bridgeLength = (if c0.closed = true then some ((d.bridge.map fun g => g.len).sum) else c.bridgeLength) ∧
        t.engine = (if c0.closed = true then s.engine else { s.engine with state := .starved }) ∧
        t.raised.map (fun r => r.code) =
          s.raised.map (fun r => r.code) ++
            (if c0.closed = true then [Event.retentionDegraded] else [Event.retentionDegraded, Event.starved]) ∧
        t.store = s.store ∧ t.retention = s.retention ∧ t.job = s.job) ∧
    (∀ cause : Nat, ¬ onPlane →
      ∃ (t : State) (d : Cavity), s.degrade cause = (t, false) ∧ t.cavity i = some d ∧ d.state = .faulted ∧
        d.fault = (c.fault <|> some .geometry) ∧ d.effective = some .bridge ∧ d.slots = 0 ∧
        (∀ j, j ≠ i → t.cavity j = s.cavity j) ∧
        t.store.free = s.store.free + c.slots + ownedSlots s.store.reroute i + ownedSlots s.store.separation i ∧
        t.engine =
          { s.engine with state := .idle, chain := none, p := 0, h := 0, floor := 0, move := none, resume := none } ∧
        t.job = { s.job with active := none } ∧
        t.raised.map (fun r => r.code) = s.raised.map (fun r => r.code) ++ [Event.retentionDegraded] ∧
        (hasLog (s.maps.entry s.maps.active Event.retentionDegraded) = true →
          ∃ l : LogRecord, t.log = pushLog s.log l ∧ l.code = Event.retentionDegraded ∧ l.content.detail = cause + 256) ∧
        (s.threading.state ≠ .sever → s.threading.wireIn = true → s.job.state ≠ .paused →
          t.threading.state = .sever ∧ t.threading.wireIn = false ∧
            t.threading.sever = some { form := .full, phase := .pulse, purpose := .machine, cavity := i })) ∧
    (s.engine.chain = some (.pass 0) → c.planned = .clamp → s.retention.clamp ≠ .free → s.reachHold = s.degrade 2) ∧
    (s.operating = true → s.retention.clamp = .requested i → s.retention.timer.isSome = true →
      exec .clampWaitExpiry s =
        .next
          ((settle
            (State.degrade { s with retention := { clamp := .free, clampReq := false, timer := none } } 1)).finish false)))

/-- The hold reached on pass 0: a BRIDGE cavity parks the bridge and completes if its CLOSE is parked, else waits STARVED; a CLAMP
cavity requests the FREE clamp and waits, or holds it at once when the sensor is high (R57, R91, R93, R139, R140). On a skim pass
the segments from HOLD on are discarded (R58). -/
def Obligations.HoldDecidesRetention : Prop :=
  ∀ (s : State) (i : CavityId) (c : Cavity) (k : PassIx) (o : Nat), s.job.active = some i → s.cavity i = some c →
    s.engine.chain = some (.pass k) → s.engine.state = .cutting → (c.passes[k]).chain.holdOffset = some o →
    let ch := (c.passes[k]).chain
    let from_ := ch.segs.filter fun g => decide (o ≤ g.s0)
    let before := ch.segs.filter fun g => decide (g.s0 < o)
    (k = 0 → c.planned = .bridge →
      ∃ (t : State) (d : Cavity), s.reachHold = (t, ch.closed) ∧ t.cavity i = some d ∧ d.effective = some .bridge ∧
        (d.passes[(0 : PassIx)]).state = .atHold ∧ (d.passes[(0 : PassIx)]).chain = { ch with segs := before } ∧
        d.bridge = c.bridge ++ from_.map (fun g => { g with state := .parked }) ∧
        d.bridgeLength = (if ch.closed = true then some ((d.bridge.map fun g => g.len).sum) else c.bridgeLength) ∧
        t.engine = (if ch.closed = true then s.engine else { s.engine with state := .starved }) ∧
        t.raised.map (fun r => r.code) =
          s.raised.map (fun r => r.code) ++ (if ch.closed = true then [] else [Event.starved]) ∧
        t.store = s.store) ∧
    (k = 0 → c.planned = .clamp → s.retention.clamp = .free →
      (s.pins.clampSense = false →
        s.reachHold =
          ({ s with
             retention := { clamp := .requested i, clampReq := true, timer := some s.params.clampWait }
             engine := { s.engine with state := .clampWait } }, false)) ∧
      (s.pins.clampSense = true →
        s.reachHold =
          ({ s with
             retention := { clamp := .held i, clampReq := true, timer := none }
             cavities := s.cavities.set i.val (some { c with effective := some .clamp })
             engine := { s.engine with state := .cutting, prevStep := 0, run := 0, reference := none } }, false))) ∧
    (k ≠ 0 →
      ∃ (t : State) (d : Cavity), s.reachHold = (t, ch.closed) ∧ t.cavity i = some d ∧ (d.passes[k]).state = .atHold ∧
        (d.passes[k]).chain = { ch with segs := before, retired := ch.retired + from_.length } ∧
        t.store.free = s.store.free + from_.length ∧ d.bridge = c.bridge ∧
        t.engine.state = (if ch.closed = true then .cutting else .starved))

/-- The completion of pass k: COMPLETE with the present P and H saved, no segment left in its chain, pass 0's segments before ENTRY at
the end of the lead-in list as LEAD_IN, every other slot free, PASS_DONE raised (R53, R54, R94). A pass that is not the last goes on
to the next, which is the current pass, ACTIVE, its depth the job's RT, at P 0 with its first segments engaged: CUTTING, STARVED
while it has none, at its hold when HOLD stands on sequence 0, or after a seat move where the position is not its origin (R42, R79,
R80, R81, R94). After the last pass the engine is IDLE and a full SEVER begins (R95); that P, H and floor are then stored as 0 is
the model's choice (notes/assumptions/18.md). -/
def Obligations.PassCompletes : Prop :=
  ∀ (s : State) (i : CavityId) (c : Cavity) (k : PassIx), s.job.active = some i → s.cavity i = some c →
    s.engine.chain = some (.pass k) →
    let ch := (c.passes[k]).chain
    let lead := if k = 0 then ch.segs.filter (fun g => match ch.entrySeq with
      | some e => decide (g.seq < e)
      | none => true) else []
    (∃ (t : State) (d : Cavity), s.completeSteps k = t ∧ t.cavity i = some d ∧ (d.passes[k]).state = .complete ∧
      (d.passes[k]).savedP = s.engine.p ∧ (d.passes[k]).savedH = s.engine.h ∧
      (d.passes[k]).chain = { ch with segs := [], retired := ch.retired + ch.segs.length } ∧
      d.leadIn = c.leadIn ++ lead.map (fun g => { g with state := .leadIn }) ∧ d.bridge = c.bridge ∧
      t.store.free + lead.length = s.store.free + ch.segs.length ∧
      d.effective = (if k = 0 ∧ c.planned = .none then some .none else c.effective) ∧
      t.raised.map (fun r => r.code) = s.raised.map (fun r => r.code) ++ [Event.passDone] ∧
      (∀ m : PassIx, m ≠ k → d.passes[m] = c.passes[m]) ∧ (∀ j, j ≠ i → t.cavity j = s.cavity j)) ∧
    (c.passCount ≤ k.val + 1 →
      ∃ t : State, s.nextPass k = (t, false) ∧
        t.engine =
          { s.engine with state := .idle, chain := none, p := 0, h := 0, floor := 0, move := none, resume := none } ∧
        t.threading =
          { s.threading with
            state := .sever, wireIn := false, withdraw := none, restart := none
            sever := some { form := .full, phase := .pulse, purpose := .lastPass, cavity := i }
            timer := some (s.profileOf i).trim, out := { ThreadOut.off with cutter := true } } ∧
        t.cavities = s.cavities ∧ t.job = s.job) ∧
    (∀ n : PassIx, n.val = k.val + 1 → n.val < c.passCount →
      let x := (c.passes[n]).chain
      let origin : Point := if c.effective.getD c.planned = .bridge then ch.holdPoint else ch.endPoint
      let begun (st : EngineState) (move : Option Move) : State :=
        { s with
          cavities :=
            s.cavities.set i.val
              (some
                { c with
                  currentPass := n
                  passes :=
                    c.passes.set n.val
                      { c.passes[n] with
                        state := .active, chain := { x with depth := s.params.retrace, segs := (x.engage 0).segs } } })
          engine :=
            { s.engine with
              state := st, chain := some (.pass n), p := 0, h := 0, floor := 0, prevStep := 0, run := 0, reference := none
              move := move, resume := none } }
      let holds : Prop := c.effective = some .bridge ∧ x.holdOffset = some 0
      (s.engine.commanded ≠ origin →
        s.nextPass k = (begun .rapid (some (.rapid s.engine.commanded origin 0 .chainSeat .cutting)), false)) ∧
      (s.engine.commanded = origin →
        (x.appended = 0 → s.nextPass k = ((begun .starved none).raise Event.starved x.nextSeq, false)) ∧
        (0 < x.appended → holds → s.nextPass k = (begun .cutting none).reachHold) ∧
        (0 < x.appended → ¬ holds → s.nextPass k = (begun .cutting none, false)))) ∧
    (∀ n : Nat,
      (((s.completeSteps k).nextPass k).2 = false → s.completePasses (n + 1) = ((s.completeSteps k).nextPass k).1) ∧
      (((s.completeSteps k).nextPass k).2 = true →
        s.completePasses (n + 1) = State.completePasses n ((s.completeSteps k).nextPass k).1))

/-- The separation chain of a RETAINED cavity: its lead-in segments as DRY ones, then its bridge segments reversed, as CUT ones of the
separation class, numbered and offset from 0 in that order (R152). A selection for separation builds it in the store, without a slot more, and moves to
the start hole, or, where the contour does not close, faults the cavity for GEOMETRY (R36, R151). Taken apart again after a failed
threading, its segments are what they were, and the cavity is RETAINED (R121, R155). Its end frees what it holds, leaves the engine
IDLE, raises SEPARATION_DONE and begins a full SEVER (R96, R154). Where it ceases, its queued PROGRESS notice is dropped (R61;
notes/assumptions/25.md). Free are whether its emptied record ceases then or with SEPARATING
(R39, R151, R154; notes/assumptions/14.md), and whether the position is held at the start hole or at the chain's end (R96 against
R77 and R152; 35.md). The model's choices: P, H and floor are stored as 0 without a chain (18.md), the chain's number (19.md). -/
def Obligations.SeparationChainReversesBridge : Prop :=
  (∀ c : Cavity,
    let segs := c.separationSegs
    segs.length = c.leadIn.length + c.bridge.length ∧
    (segs.map fun g => g.len).sum = (c.leadIn.map fun g => g.len).sum + (c.bridge.map fun g => g.len).sum ∧
    (∀ (n : Nat) (g : Segment), segs[n]? = some g →
      g.seq = n ∧ g.s0 = ((segs.take n).map fun x => x.len).sum ∧ g.state = .queued ∧
      (∀ l, n < c.leadIn.length → c.leadIn[n]? = some l →
        g = { l with mode := .dry, state := .queued, seq := n, s0 := g.s0 }) ∧
      (∀ b, c.leadIn.length ≤ n → c.bridge.reverse[n - c.leadIn.length]? = some b →
        g =
          { b with
            start := b.stop, stop := b.start, dx := -b.dx, dy := -b.dy, mode := .cut, feedClass := c.sepClass
            entry := false, hold := false, close := false, state := .queued, seq := n, s0 := g.s0 })) ∧
    (∀ b : Segment, b.state = .parked →
      let back := Segment.turnedBack (Segment.toReversed c.sepClass b)
      back.start = b.start ∧ back.stop = b.stop ∧ back.dx = b.dx ∧ back.dy = b.dy ∧ back.len = b.len ∧ back.state = .parked)) ∧
  (∀ (s : State) (i : CavityId) (c : Cavity), s.cavity i = some c → s.store.separation = none →
    let entryStart : Point := match c.leadIn.getLast? with
      | some l => l.stop
      | none => c.hole
    let closes : Prop := ∃ g, c.bridge.getLast? = some g ∧ g.stop = entryStart
    let segs := c.separationSegs
    let built : State :=
      { s with
        cavities :=
          s.cavities.set i.val
            (some { c with state := .separating, sepSelected := true, attemptsUsed := 0, leadIn := [], bridge := [] })
        job := { s.job with active := some i }
        store :=
          { s.store with
            separation :=
              some
                { owner := i
                  chain :=
                    { Chain.new s.store.nextSerial with
                      segs := segs, appended := segs.length, nextSeq := segs.length, closed := true
                      endOffset := (segs.map fun g => g.len).sum
                      endPoint := match segs.getLast? with
                        | some g => g.stop
                        | none => c.hole } }
            nextSerial := s.store.nextSerial + 1 } }
    (closes → s.engine.commanded ≠ c.hole → s.engine.move = none →
      s.selectSeparation i =
        { built with
          engine :=
            { s.engine with
              state := .rapid, move := some (.rapid s.engine.commanded c.hole 0 .sequencer s.engine.state) } }) ∧
    (closes → s.engine.commanded = c.hole → s.selectSeparation i = built.beginThreading .separation c.hole i) ∧
    (¬ closes →
      ∃ (t : State) (d : Cavity), s.selectSeparation i = t ∧ t.cavity i = some d ∧ d.state = .faulted ∧
        d.fault = (c.fault <|> some .geometry) ∧ d.sepSelected = true ∧ d.slots = 0 ∧
        (∀ j, j ≠ i → t.cavity j = s.cavity j) ∧ t.store.separation = none ∧
        t.store.free = s.store.free + c.slots + ownedSlots s.store.reroute i ∧ t.job = { s.job with active := none } ∧
        t.engine = s.engine ∧ t.threading = s.threading ∧ t.recovery = s.recovery ∧ t.raised = s.raised ∧
        t.sepQueue = s.sepQueue.filter (fun j => decide (j ≠ i)) ∧
        t.link = { s.link with notices := s.withoutReportsOf i s.link.notices } ∧ t.sameSettings s) ∧
    (let shape (g : Segment) : Int × Int × Nat × Point × Point := (g.dx, g.dy, g.len, g.start, g.stop)
     ∃ (t : State) (d : Cavity), built.dismantle i = t ∧ t.cavity i = some d ∧ d.leadIn.map shape = c.leadIn.map shape ∧
       d.bridge.map shape = c.bridge.map shape ∧ (∀ g ∈ d.leadIn, g.state = .leadIn ∧ g.mode = .dry) ∧
       (∀ g ∈ d.bridge, g.state = .parked ∧ g.mode = .cut ∧ g.feedClass = c.sepClass) ∧ t.store.separation = none ∧
       t.store.free = s.store.free ∧
       t.link = { s.link with notices := dropReports .separation built.store.separation s.link.notices })) ∧
  (∀ (s : State) (i : CavityId) (o : OwnedChain), s.job.active = some i → s.store.separation = some o →
    s.engine.chain = some .separation →
    s.chainEnd =
      State.beginSever
        (State.raise
          { s with
            store :=
              { s.store with
                free := s.store.free + o.chain.segs.length
                separation :=
                  if Config.separationCeasesAtEnd = true then none
                  else
                    some
                      { o with
                        chain := { o.chain with segs := [], retired := o.chain.retired + o.chain.segs.length } } }
            link :=
              { s.link with
                notices :=
                  if Config.separationCeasesAtEnd = true then dropReports .separation (some o) s.link.notices
                  else s.link.notices }
            engine :=
              { s.engine with
                state := .idle, chain := none, p := 0, h := 0, floor := 0, move := none, resume := none
                commanded := if Config.separationHoldsAtHole = true then s.holeOf i else s.engine.commanded } }
          Event.separationDone i.val) .full .separation i) ∧
  (∀ (s : State) (w : Attempting) (c : Cavity) (o : OwnedChain), w.purpose = .separation → s.cavity w.cavity = some c →
    s.store.separation = some o → o.owner = w.cavity → s.params.faultPolicy = .skip →
    ∃ (t : State) (d : Cavity), s.handFailed w = t ∧ t.cavity w.cavity = some d ∧ d.state = .retained ∧
      d.leadIn = c.leadIn ++ (o.chain.segs.filter fun g => decide (g.mode = .dry)).map (fun g => { g with state := .leadIn }) ∧
      d.bridge = c.bridge ++ (o.chain.segs.filter fun g => decide (g.mode = .cut)).reverse.map Segment.turnedBack ∧
      t.store = { s.store with separation := none } ∧
      t.job.active = (if s.job.active = some w.cavity then none else s.job.active) ∧ t.engine = s.engine ∧
      t.threading = s.threading ∧
      (∀ x, Notice.progress x ∈ t.link.notices → x.chain = .separation → x.serial ≠ o.chain.serial) ∧
      t.raised.map (fun r => r.code) = s.raised.map (fun r => r.code) ++ [Event.threadExhausted])

/-! ### Event map, output channels, interlock, clock and log -/

/-- The inputs of the event map and EVENT_INJECT raise their codes with their details; an entry that reaches neither job nor recovery
unit does its record, its notice and its outputs (R156 to R158, R164). An entry that pauses adds its reason to a PAUSED job and
pauses a RUNNING one; an entry with HALT and no BREAK halts it (R21, R23, R157). -/
def Obligations.RaisedCodesAreHanded : Prop :=
  (∀ s : State, s.operating = true → s.quiet →
    let inputs : List (Instr × Pins × Code) :=
      [ (.dielectricOkFall, { s.pins with dielectricOk := false }, Event.dielectricLow),
        (.spoolLowRise, { s.pins with spoolLow := true }, Event.spoolLow) ] ++
      (List.finRange 8).map (fun n => (.extInEdge n true, { s.pins with ext := s.pins.ext ||| (1#8 <<< n.val) }, extCode n true)) ++
      (List.finRange 8).map (fun n =>
        (.extInEdge n false, { s.pins with ext := s.pins.ext &&& ~~~(1#8 <<< n.val) }, extCode n false))
    ∀ x ∈ inputs,
      exec x.1 s = .next ((State.raise { s with pins := x.2.1 } x.2.2 0).finish false) ∧
      (s.inert x.2.2 = true → exec x.1 s = .next (State.carried { s with pins := x.2.1 } x.2.2 0).closed)) ∧
  (∀ n : Fin 8, (extCode n true).val = 32 + n.val ∧ (extCode n false).val = 40 + n.val) ∧
  (∀ (s : State) (tag : Byte) (payload : List Byte), payload.length = 3 → s.decides 0x43#8 tag payload = true → s.quiet →
    (64 ≤ byteAt payload 0 → exec (.eventInject tag payload) s = .next (s.replied 0x43#8 tag .badField [])) ∧
    (∀ code : Code, byteAt payload 0 = code.val →
      exec (.eventInject tag payload) s =
        .next (((s.popRequest.raise code (u16At payload 1)).pushReply 0x43#8 tag .ok []).finish false) ∧
      (s.inert code = true →
        exec (.eventInject tag payload) s = .next ((s.carried code (u16At payload 1)).replied 0x43#8 tag .ok [])))) ∧
  (∀ (s : State) (code : Code) (detail : Nat), s.raised = [] →
    let entry := s.maps.entry s.maps.active code
    let add (r : Reasons) : Reasons := if code = Event.linkSilent then { r with linkSilent := true } else { r with event := true }
    let u := s.noted code detail
    (s.inert code = true → (s.raise code detail).drain = s.carried code detail) ∧
    (s.onlyPauses code = true → s.job.state = .paused →
      (s.raise code detail).drain =
        (State.allOutputActions { u with job := { s.job with reasons := add s.job.reasons } } entry)) ∧
    (s.onlyPauses code = true → s.job.state = .running →
      (s.raise code detail).drain =
        (State.suspendBlocks { u with job := { s.job with state := .paused, reasons := add s.job.reasons } }).allOutputActions
          entry) ∧
    (hasHalt entry = true → hasBreak entry = false → s.job.state = .running ∨ s.job.state = .paused →
      (s.raise code detail).drain = (u.haltJob .halted).allOutputActions entry) ∧
    (entry.getLsbD 4 = true → hasHalt entry = false → hasPause entry = false →
      (s.raise code detail).drain =
        State.drainWith 255 (((u.updRaised fun _ => []).takeBreak).allOutputActions entry)))

/-- MAP_WRITE: the three tests in order; taken, the entry is the union of the set sent and the code's locked set, and no other entry
changes (R161). MAP_READ answers with the entry of the map named (R162). A set with an unused bit is R180's, in OutputsAreConfigured. -/
def Obligations.MapRequestsWriteAndRead : Prop :=
  (∀ (s : State) (tag : Byte) (payload : List Byte), payload.length = 6 → s.decides 0x40#8 tag payload = true → s.quiet →
    let sent : ActionSet := BitVec.ofNat 32 (u32At payload 2)
    let clash : Prop := ∃ n : Fin 4, sent.getLsbD (12 + n.val) = true ∧ sent.getLsbD (16 + n.val) = true
    (2 ≤ byteAt payload 0 ∨ 64 ≤ byteAt payload 1 →
      exec (.mapWrite tag payload) s = .next (s.replied 0x40#8 tag .badField [])) ∧
    (clash → exec (.mapWrite tag payload) s = .next (s.replied 0x40#8 tag .badField [])) ∧
    (∀ (name : MapName) (code : Code), byteAt payload 0 = name.code → byteAt payload 1 = code.val → ¬ clash →
      (∀ b : Nat, sent.getLsbD b = true → b ∈ [0, 1, 2, 3, 4, 8, 9, 10, 11, 12, 13, 14, 15, 16, 17, 18, 19]) →
      (name = s.maps.active → exec (.mapWrite tag payload) s = .next (s.replied 0x40#8 tag .activeMap [])) ∧
      (name ≠ s.maps.active →
        ∃ m : EventMap, exec (.mapWrite tag payload) s = .next (State.replied { s with maps := m } 0x40#8 tag .ok []) ∧
          m.active = s.maps.active ∧ m.entry name code = sent ||| lockedSet code.val ∧
          ∀ (other : MapName) (c : Code), other ≠ name ∨ c ≠ code → m.entry other c = s.maps.entry other c))) ∧
  (∀ (s : State) (tag a b : Byte), s.decides 0x41#8 tag [a, b] = true → s.quiet →
    (2 ≤ a.toNat ∨ 64 ≤ b.toNat → exec (.mapRead tag [a, b]) s = .next (s.replied 0x41#8 tag .badField [])) ∧
    (∀ (name : MapName) (code : Code), a.toNat = name.code → b.toNat = code.val →
      ∃ data : List Byte, exec (.mapRead tag [a, b]) s = .next (s.replied 0x41#8 tag .ok data) ∧ data.length = 4 ∧
        BitVec.ofNat 32 (u32At data 0) = s.maps.entry name code))

/-- A pulse channel: a trigger starts an IDLE channel and is lost on any other, the delay's expiry makes it ACTIVE, the width's
expiry IDLE with the stored configuration in force, and each of these keeps output and timer as its state says (R166). -/
def Obligations.ChannelsPulse : Prop :=
  (∀ (s : State) (n : Fin 4), s.operating = true →
    let c := s.channels[n]
    (c.state = .delaying →
      exec (.pulseDelayExpiry n) s =
        .next
          { s with
            channels :=
              s.channels.set n.val
                { c with
                  state := .active, timer := some c.inForce.width
                  output := if c.inForce.polarity = .high then true else false } }) ∧
    (c.state = .active →
      exec (.pulseWidthExpiry n) s =
        .next
          { s with
            channels :=
              s.channels.set n.val
                { stored := c.stored, inForce := c.stored, state := .idle, timer := none
                  output := if c.stored.polarity = .high then false else true } })) ∧
  (∀ c : Channel,
    (c.state = .idle → 0 < c.inForce.delay →
      c.trigger = { c with state := .delaying, timer := some c.inForce.delay }) ∧
    (c.state = .idle → c.inForce.delay = 0 →
      c.trigger =
        { c with
          state := .active, timer := some c.inForce.width
          output := if c.inForce.polarity = .high then true else false }) ∧
    (c.state ≠ .idle → c.trigger = c)) ∧
  (∀ c : Channel,
    let sound (d : Channel) : Prop :=
      (d.state = .idle → d.output = d.inForce.level false ∧ d.timer = none) ∧
      (d.state = .delaying → d.output = d.inForce.level false ∧ d.timer.isSome = true) ∧
      (d.state = .active → d.output = d.inForce.level true ∧ d.timer.isSome = true)
    sound c →
      sound c.trigger ∧ (c.state = .delaying → sound c.delayExpired) ∧ (c.state = .active → sound c.widthExpired))

/-- CHANNEL_SET stores a configuration, which an IDLE channel takes into force with its output at the new inactive level, and keeps
output and timer as the channel's state says; MAP_SWAP exchanges the maps; SETn and CLRn drive level output n (R163, R165, R167).
MAP_WRITE refuses an action set with an unused bit (R161, R180). That the expiry of a timer that a channel does not run changes
nothing is the model's choice (notes/assumptions/1.md). -/
def Obligations.OutputsAreConfigured : Prop :=
  (∀ (s : State) (tag : Byte) (payload : List Byte), payload.length = 6 → s.decides 0x48#8 tag payload = true → s.quiet →
    (4 ≤ byteAt payload 0 ∨ u16At payload 3 = 0 ∨ 2 ≤ byteAt payload 5 →
      exec (.channelSet tag payload) s = .next (s.replied 0x48#8 tag .badField [])) ∧
    (∀ (n : Fin 4) (polarity : Polarity), byteAt payload 0 = n.val → 0 < u16At payload 3 →
      byteAt payload 5 = polarity.code →
      let cfg : ChannelConfig := { delay := u16At payload 1, width := u16At payload 3, polarity := polarity }
      let c := s.channels[n]
      (c.state = .idle →
        exec (.channelSet tag payload) s =
          .next
            (State.replied
              { s with
                channels :=
                  s.channels.set n.val
                    { c with stored := cfg, inForce := cfg, output := if polarity = .high then false else true } }
              0x48#8 tag .ok [])) ∧
      (c.state ≠ .idle →
        exec (.channelSet tag payload) s =
          .next (State.replied { s with channels := s.channels.set n.val { c with stored := cfg } } 0x48#8 tag .ok [])))) ∧
  (∀ (s : State) (tag : Byte), s.decides 0x42#8 tag [] = true → s.quiet →
    (s.maps.active = .a →
      exec (.mapSwap tag []) s = .next (State.replied { s with maps := { s.maps with active := .b } } 0x42#8 tag .ok [1#8])) ∧
    (s.maps.active = .b →
      exec (.mapSwap tag []) s = .next (State.replied { s with maps := { s.maps with active := .a } } 0x42#8 tag .ok [0#8]))) ∧
  (∀ (s : State) (a : ActionSet) (n : Fin 4),
    (s.allOutputActions a).levels[n] =
      (if a.getLsbD (16 + n.val) = true then false else if a.getLsbD (12 + n.val) = true then true else s.levels[n]) ∧
    (s.allOutputActions a).channels[n] = (if a.getLsbD (8 + n.val) = true then (s.channels[n]).trigger else s.channels[n])) ∧
  (∀ (s : State) (tag : Byte) (payload : List Byte), payload.length = 6 → s.decides 0x40#8 tag payload = true → s.quiet →
    (∃ b : Nat, b ∉ [0, 1, 2, 3, 4, 8, 9, 10, 11, 12, 13, 14, 15, 16, 17, 18, 19] ∧
      BitVec.getLsbD (BitVec.ofNat 32 (u32At payload 2)) b = true) →
    exec (.mapWrite tag payload) s = .next (s.replied 0x40#8 tag .badField [])) ∧
  (∀ (s : State) (n : Fin 4), s.operating = true →
    ((s.channels[n]).state ≠ .delaying → exec (.pulseDelayExpiry n) s = .next s) ∧
    ((s.channels[n]).state ≠ .active → exec (.pulseWidthExpiry n) s = .next s)) ∧
  (∀ (c : Channel) (cfg : ChannelConfig),
    let sound (d : Channel) : Prop :=
      (d.state = .idle → d.output = d.inForce.level false ∧ d.timer = none) ∧
      (d.state = .delaying → d.output = d.inForce.level false ∧ d.timer.isSome = true) ∧
      (d.state = .active → d.output = d.inForce.level true ∧ d.timer.isSome = true)
    sound c → sound c.delayExpired ∧ sound c.widthExpired ∧ sound (c.configure cfg))

/-- The interlock: its fall latches the flag in LATCH, adds INTERLOCK, pauses a RUNNING job and raises its code with the mode, and
GEN_EN is low; its rise removes the reason in FOLLOW alone, and resumes the job where no other stands; INTERLOCK_CLEAR removes flag
and reason while the input is high; INTERLOCK_MODE is taken in IDLE and LOADING (R22, R168 to R171). -/
def Obligations.InterlockFollowsInput : Prop :=
  (∀ s : State, s.operating = true → s.quiet →
    let opened : State :=
      { s with
        pins := { s.pins with interlock := false }
        interlock := { s.interlock with latched := s.interlock.latched || decide (s.interlock.mode = .latch) } }
    let detail := if s.interlock.mode = .follow then 0 else 1
    (s.job.state ∉ [.running, .paused] → s.inert Event.interlockOpen = true →
      exec .interlockFall s = .next (opened.carried Event.interlockOpen detail).closed) ∧
    (s.job.state = .paused →
      exec .interlockFall s =
        .next
          ((State.raise { opened with job := { s.job with reasons := { s.job.reasons with interlock := true } } }
            Event.interlockOpen detail).finish false)) ∧
    (s.job.state = .running →
      exec .interlockFall s =
        .next
          (((State.suspendBlocks
            { opened with
              job := { s.job with state := .paused, reasons := { s.job.reasons with interlock := true } } }).raise
            Event.interlockOpen detail).finish false) ∧
      (s.onlyPauses Event.interlockOpen = true →
        ∃ t : State, exec .interlockFall s = .next t ∧ t.engine.genEn = false ∧ t.job.state = .paused ∧
          t.job.reasons = { s.job.reasons with interlock := true, event := true })) ∧
    (s.interlock.mode = .latch → s.inert Event.interlockClosed = true →
      exec .interlockRise s =
        .next
          (State.carried { s with pins := { s.pins with interlock := true } } Event.interlockClosed
            (if s.interlock.latched = true then 1 else 0)).closed) ∧
    (s.interlock.mode = .follow → s.job.state = .paused →
      s.job.reasons.host = true ∨ s.job.reasons.event = true ∨ s.job.reasons.linkSilent = true →
      s.inert Event.interlockClosed = true ∨ s.onlyPauses Event.interlockClosed = true →
      ∃ t : State, exec .interlockRise s = .next t ∧ t.pins.interlock = true ∧ t.job.state = .paused ∧
        t.job.reasons.interlock = false ∧ t.job.reasons.host = s.job.reasons.host) ∧
    (s.interlock.mode = .follow → s.job.state = .paused → s.job.reasons.host = false → s.job.reasons.event = false →
      s.job.reasons.linkSilent = false →
      let closedIn : State := { s with pins := { s.pins with interlock := true } }
      exec .interlockRise s = .next ((State.raise closedIn.resumeJob Event.interlockClosed 0).finish false)) ∧
    (s.interlock.mode = .follow → s.job.state ≠ .paused → s.inert Event.interlockClosed = true →
      exec .interlockRise s =
        .next (State.carried { s with pins := { s.pins with interlock := true } } Event.interlockClosed 0).closed)) ∧
  (∀ (s : State) (tag : Byte), s.decides 0x4C#8 tag [] = true → s.quiet →
    let cleared : State := { s with interlock := { s.interlock with latched := false } }
    (s.pins.interlock = false → exec (.interlockClear tag []) s = .next (s.replied 0x4C#8 tag .interlock [])) ∧
    (s.pins.interlock = true → s.job.state ≠ .paused →
      exec (.interlockClear tag []) s = .next (cleared.replied 0x4C#8 tag .ok [])) ∧
    (s.pins.interlock = true → s.job.state = .paused →
      s.job.reasons.host = true ∨ s.job.reasons.event = true ∨ s.job.reasons.linkSilent = true →
      exec (.interlockClear tag []) s =
        .next
          (State.replied { cleared with job := { s.job with reasons := { s.job.reasons with interlock := false } } } 0x4C#8 tag
            .ok [])) ∧
    (s.pins.interlock = true → s.job.state = .paused → s.job.reasons.host = false → s.job.reasons.event = false →
      s.job.reasons.linkSilent = false →
      exec (.interlockClear tag []) s =
        .next ((cleared.popRequest.resumeJob.pushReply 0x4C#8 tag .ok []).finish false))) ∧
  (∀ (s : State) (tag v : Byte), s.decides 0x4D#8 tag [v] = true → s.quiet →
    (s.job.state ∉ [.idle, .loading] → exec (.interlockMode tag [v]) s = .next (s.replied 0x4D#8 tag .wrongState [])) ∧
    (s.job.state ∈ [.idle, .loading] →
      (2 ≤ v.toNat → exec (.interlockMode tag [v]) s = .next (s.replied 0x4D#8 tag .badField [])) ∧
      (v = 0 →
        exec (.interlockMode tag [v]) s =
          .next (State.replied { s with interlock := { mode := .follow, latched := false } } 0x4D#8 tag .ok [])) ∧
      (v = 1 →
        exec (.interlockMode tag [v]) s =
          .next (State.replied { s with interlock := { s.interlock with mode := .latch } } 0x4D#8 tag .ok []))))

/-- LOG_READ removes the oldest records and answers with their number, the number left and the records; a record that joins a full
log discards the oldest and flags its successor (R175, R176). CLOCK_SET loads the clock, which advances by one and wraps (R172,
R173). The notice queue holds sixteen, and a PROGRESS notice replaces a queued one in its place (R9). -/
def Obligations.ClockLogAndQueuesKeepOrder : Prop :=
  (∀ (s : State) (tag n : Byte), s.decides 0x51#8 tag [n] = true → s.quiet →
    (n.toNat = 0 ∨ 8 < n.toNat → exec (.logRead tag [n]) s = .next (s.replied 0x51#8 tag .badField [])) ∧
    (1 ≤ n.toNat → n.toNat ≤ 8 →
      exec (.logRead tag [n]) s =
        .next
          (State.replied { s with log := s.log.drop n.toNat } 0x51#8 tag .ok
            (enc8 (min n.toNat s.log.length) ++ enc16 (s.log.length - n.toNat) ++
              ((s.log.take n.toNat).map LogRecord.encode).flatten)) ∧
      ∀ r : LogRecord, r.encode.length = 14)) ∧
  (∀ (log : List LogRecord) (r : LogRecord),
    (log.length < 256 → pushLog log r = log ++ [r]) ∧
    (∀ (first second : LogRecord) (rest : List LogRecord), log = first :: second :: rest → log.length = 256 →
      pushLog log r = { second with discontinuity := true } :: rest ++ [r] ∧ (pushLog log r).length = 256)) ∧
  (∀ (s : State) (tag : Byte) (payload : List Byte), payload.length = 4 → s.decides 0x50#8 tag payload = true → s.quiet →
    exec (.clockSet tag payload) s =
      .next (State.replied { s with clock := BitVec.ofNat 32 (u32At payload 0) } 0x50#8 tag .ok [])) ∧
  (∀ s : State, s.operating = true → exec .jobClockAdvance s = .next { s with clock := s.clock + 1 }) ∧
  (0xFFFFFFFF#32 + 1 = 0) ∧
  (∀ (q : List Notice) (code : Code) (content : EventContent) (p : ProgressContent),
    (q.length < 16 → offerNotice q (.event code content) = q ++ [.event code content]) ∧
    (16 ≤ q.length → offerNotice q (.event code content) = q) ∧
    ((∀ old, Notice.progress old ∉ q) → q.length < 16 → offerNotice q (.progress p) = q ++ [.progress p]) ∧
    ((∀ old, Notice.progress old ∉ q) → 16 ≤ q.length → offerNotice q (.progress p) = q) ∧
    (∀ (before after : List Notice) (old : ProgressContent), q = before ++ .progress old :: after →
      (∀ x, Notice.progress x ∉ before) → (∀ x, Notice.progress x ∉ after) →
      offerNotice q (.progress p) = before ++ .progress p :: after))

/-! ### Invariants -/

/-- The state after reset meets every invariant stated below, and nothing waits in it. -/
def Obligations.ResetMeetsTheInvariants : Prop :=
  let s := State.reset
  s.listsBounded ∧ s.clampReqFollows ∧ s.maps.keepsLocked ∧ s.underCeilings ∧ s.oneActive ∧ s.ordersSound ∧ s.genFollows ∧
    s.quiet ∧ s.slotsSound

/-- Every step keeps the bounds of the link port's lists and of the log, CLAMP_REQ as the clamp says, the locked actions in both
maps, and every bounded value under its ceiling (R4, R6, R9, R13, R14, R138, R159, R175). -/
def Obligations.StepKeepsBoundsAndLocks : Prop :=
  (∀ s t : State, s.listsBounded → step s = .next t → t.listsBounded) ∧
  (∀ s t : State, s.clampReqFollows → step s = .next t → t.clampReqFollows) ∧
  (∀ s t : State, s.maps.keepsLocked → step s = .next t → t.maps.keepsLocked) ∧
  (∀ s t : State, s.underCeilings → step s = .next t → t.underCeilings)

/-- Every step keeps at most one cavity in an active state, and the run order and the separation queue without duplicates (R26, R30,
R33); it keeps the slots of the pool: free slots and held ones are 2048 together (R38). -/
def Obligations.StepKeepsCavityTable : Prop :=
  (∀ s t : State, s.oneActive → s.ordersSound → step s = .next t → t.oneActive ∧ t.ordersSound) ∧
  (∀ s t : State, s.slotsSound → step s = .next t → t.slotsSound)

/-- After every step that begins with nothing waiting to be handed or selected, nothing waits: each code raised has been handed, up to
the bound of 256 that is the model's choice (notes/assumptions/9.md), and each selection made (R35, R158). -/
def Obligations.SelectionsAreComplete : Prop :=
  ∀ s t : State, s.ordersSound → s.quiet → step s = .next t → t.quiet

/-- Every step leaves GEN_EN asserted exactly while its five conditions hold, and the energy index 0 while it is low (R86). -/
def Obligations.GenEnableFollows : Prop :=
  ∀ s t : State, s.genFollows → step s = .next t → t.genFollows
end

