-- ==== Sys2Proof/Laws/Bytes.lean ====
section
/-! SUPPORT. Lengths of the encoded fields and the reading back of a field at its offset (R179). -/

namespace Sys2Proof.Machine

@[simp] theorem enc8_length (n : Nat) : (enc8 n).length = 1 := rfl
@[simp] theorem enc16_length (n : Nat) : (enc16 n).length = 2 := rfl
@[simp] theorem enc32_length (n : Nat) : (enc32 n).length = 4 := rfl
@[simp] theorem encS16_length (i : Int) : (encS16 i).length = 2 := rfl
@[simp] theorem encS32_length (i : Int) : (encS32 i).length = 4 := rfl
@[simp] theorem encPoint_length (p : Point) : (encPoint p).length = 8 := rfl
@[simp] theorem encPathPoint_length (o : Option PathPoint) : (encPathPoint o).length = 12 := by cases o <;> rfl

/-- A byte of a list that stands after a prefix. -/
theorem byteAt_append (pre rest : List Byte) (n : Nat) : byteAt (pre ++ rest) (pre.length + n) = byteAt rest n := by
  simp [byteAt, List.getElem?_append_right (Nat.le_add_right _ n)]

theorem u16At_append (pre rest : List Byte) (n : Nat) : u16At (pre ++ rest) (pre.length + n) = u16At rest n := by
  simp only [u16At, Nat.add_assoc, byteAt_append]

theorem u32At_append (pre rest : List Byte) (n : Nat) : u32At (pre ++ rest) (pre.length + n) = u32At rest n := by
  simp only [u32At, Nat.add_assoc, u16At_append]

/-- A u8 field reads back. -/
theorem byteAt_enc8 {n : Nat} (h : n < 256) (rest : List Byte) : byteAt (enc8 n ++ rest) 0 = n := by
  simp [byteAt, enc8]; omega

/-- A u16 field reads back. -/
theorem u16At_enc16 {n : Nat} (h : n < 65536) (rest : List Byte) : u16At (enc16 n ++ rest) 0 = n := by
  simp [u16At, byteAt, enc16, enc8]; omega

/-- A u32 field reads back. -/
theorem u32At_enc32 {n : Nat} (h : n < 4294967296) (rest : List Byte) : u32At (enc32 n ++ rest) 0 = n := by
  simp [u32At, u16At, byteAt, enc32, enc16, enc8]; omega

end Sys2Proof.Machine
end

