-- ==== Sys2Proof/Laws/State.lean ====
section
/-! SUPPORT. One lemma per field per update of State: an update changes its own field and leaves every other as it was. -/

namespace Sys2Proof.Machine.State

variable (s : State)

@[simp] theorem updLink_pending (f : Link → Link) : (s.updLink f).pending = s.pending := rfl
@[simp] theorem updLink_link (f : Link → Link) : (s.updLink f).link = f s.link := rfl
@[simp] theorem updLink_limits (f : Link → Link) : (s.updLink f).limits = s.limits := rfl
@[simp] theorem updLink_job (f : Link → Link) : (s.updLink f).job = s.job := rfl
@[simp] theorem updLink_cavities (f : Link → Link) : (s.updLink f).cavities = s.cavities := rfl
@[simp] theorem updLink_runOrder (f : Link → Link) : (s.updLink f).runOrder = s.runOrder := rfl
@[simp] theorem updLink_sepQueue (f : Link → Link) : (s.updLink f).sepQueue = s.sepQueue := rfl
@[simp] theorem updLink_store (f : Link → Link) : (s.updLink f).store = s.store := rfl
@[simp] theorem updLink_engine (f : Link → Link) : (s.updLink f).engine = s.engine := rfl
@[simp] theorem updLink_feed (f : Link → Link) : (s.updLink f).feed = s.feed := rfl
@[simp] theorem updLink_feedOverride (f : Link → Link) : (s.updLink f).feedOverride = s.feedOverride := rfl
@[simp] theorem updLink_genWatch (f : Link → Link) : (s.updLink f).genWatch = s.genWatch := rfl
@[simp] theorem updLink_driveWatch (f : Link → Link) : (s.updLink f).driveWatch = s.driveWatch := rfl
@[simp] theorem updLink_profiles (f : Link → Link) : (s.updLink f).profiles = s.profiles := rfl
@[simp] theorem updLink_threading (f : Link → Link) : (s.updLink f).threading = s.threading := rfl
@[simp] theorem updLink_recovery (f : Link → Link) : (s.updLink f).recovery = s.recovery := rfl
@[simp] theorem updLink_retention (f : Link → Link) : (s.updLink f).retention = s.retention := rfl
@[simp] theorem updLink_maps (f : Link → Link) : (s.updLink f).maps = s.maps := rfl
@[simp] theorem updLink_channels (f : Link → Link) : (s.updLink f).channels = s.channels := rfl
@[simp] theorem updLink_levels (f : Link → Link) : (s.updLink f).levels = s.levels := rfl
@[simp] theorem updLink_interlock (f : Link → Link) : (s.updLink f).interlock = s.interlock := rfl
@[simp] theorem updLink_log (f : Link → Link) : (s.updLink f).log = s.log := rfl
@[simp] theorem updLink_clock (f : Link → Link) : (s.updLink f).clock = s.clock := rfl
@[simp] theorem updLink_raised (f : Link → Link) : (s.updLink f).raised = s.raised := rfl
@[simp] theorem updLink_pins (f : Link → Link) : (s.updLink f).pins = s.pins := rfl
@[simp] theorem updLink_power (f : Link → Link) : (s.updLink f).power = s.power := rfl

@[simp] theorem updLimits_pending (f : Option Limits → Option Limits) : (s.updLimits f).pending = s.pending := rfl
@[simp] theorem updLimits_link (f : Option Limits → Option Limits) : (s.updLimits f).link = s.link := rfl
@[simp] theorem updLimits_limits (f : Option Limits → Option Limits) : (s.updLimits f).limits = f s.limits := rfl
@[simp] theorem updLimits_job (f : Option Limits → Option Limits) : (s.updLimits f).job = s.job := rfl
@[simp] theorem updLimits_cavities (f : Option Limits → Option Limits) : (s.updLimits f).cavities = s.cavities := rfl
@[simp] theorem updLimits_runOrder (f : Option Limits → Option Limits) : (s.updLimits f).runOrder = s.runOrder := rfl
@[simp] theorem updLimits_sepQueue (f : Option Limits → Option Limits) : (s.updLimits f).sepQueue = s.sepQueue := rfl
@[simp] theorem updLimits_store (f : Option Limits → Option Limits) : (s.updLimits f).store = s.store := rfl
@[simp] theorem updLimits_engine (f : Option Limits → Option Limits) : (s.updLimits f).engine = s.engine := rfl
@[simp] theorem updLimits_feed (f : Option Limits → Option Limits) : (s.updLimits f).feed = s.feed := rfl
@[simp] theorem updLimits_feedOverride (f : Option Limits → Option Limits) : (s.updLimits f).feedOverride = s.feedOverride := rfl
@[simp] theorem updLimits_genWatch (f : Option Limits → Option Limits) : (s.updLimits f).genWatch = s.genWatch := rfl
@[simp] theorem updLimits_driveWatch (f : Option Limits → Option Limits) : (s.updLimits f).driveWatch = s.driveWatch := rfl
@[simp] theorem updLimits_profiles (f : Option Limits → Option Limits) : (s.updLimits f).profiles = s.profiles := rfl
@[simp] theorem updLimits_threading (f : Option Limits → Option Limits) : (s.updLimits f).threading = s.threading := rfl
@[simp] theorem updLimits_recovery (f : Option Limits → Option Limits) : (s.updLimits f).recovery = s.recovery := rfl
@[simp] theorem updLimits_retention (f : Option Limits → Option Limits) : (s.updLimits f).retention = s.retention := rfl
@[simp] theorem updLimits_maps (f : Option Limits → Option Limits) : (s.updLimits f).maps = s.maps := rfl
@[simp] theorem updLimits_channels (f : Option Limits → Option Limits) : (s.updLimits f).channels = s.channels := rfl
@[simp] theorem updLimits_levels (f : Option Limits → Option Limits) : (s.updLimits f).levels = s.levels := rfl
@[simp] theorem updLimits_interlock (f : Option Limits → Option Limits) : (s.updLimits f).interlock = s.interlock := rfl
@[simp] theorem updLimits_log (f : Option Limits → Option Limits) : (s.updLimits f).log = s.log := rfl
@[simp] theorem updLimits_clock (f : Option Limits → Option Limits) : (s.updLimits f).clock = s.clock := rfl
@[simp] theorem updLimits_raised (f : Option Limits → Option Limits) : (s.updLimits f).raised = s.raised := rfl
@[simp] theorem updLimits_pins (f : Option Limits → Option Limits) : (s.updLimits f).pins = s.pins := rfl
@[simp] theorem updLimits_power (f : Option Limits → Option Limits) : (s.updLimits f).power = s.power := rfl

@[simp] theorem updJob_pending (f : Job → Job) : (s.updJob f).pending = s.pending := rfl
@[simp] theorem updJob_link (f : Job → Job) : (s.updJob f).link = s.link := rfl
@[simp] theorem updJob_limits (f : Job → Job) : (s.updJob f).limits = s.limits := rfl
@[simp] theorem updJob_job (f : Job → Job) : (s.updJob f).job = f s.job := rfl
@[simp] theorem updJob_cavities (f : Job → Job) : (s.updJob f).cavities = s.cavities := rfl
@[simp] theorem updJob_runOrder (f : Job → Job) : (s.updJob f).runOrder = s.runOrder := rfl
@[simp] theorem updJob_sepQueue (f : Job → Job) : (s.updJob f).sepQueue = s.sepQueue := rfl
@[simp] theorem updJob_store (f : Job → Job) : (s.updJob f).store = s.store := rfl
@[simp] theorem updJob_engine (f : Job → Job) : (s.updJob f).engine = s.engine := rfl
@[simp] theorem updJob_feed (f : Job → Job) : (s.updJob f).feed = s.feed := rfl
@[simp] theorem updJob_feedOverride (f : Job → Job) : (s.updJob f).feedOverride = s.feedOverride := rfl
@[simp] theorem updJob_genWatch (f : Job → Job) : (s.updJob f).genWatch = s.genWatch := rfl
@[simp] theorem updJob_driveWatch (f : Job → Job) : (s.updJob f).driveWatch = s.driveWatch := rfl
@[simp] theorem updJob_profiles (f : Job → Job) : (s.updJob f).profiles = s.profiles := rfl
@[simp] theorem updJob_threading (f : Job → Job) : (s.updJob f).threading = s.threading := rfl
@[simp] theorem updJob_recovery (f : Job → Job) : (s.updJob f).recovery = s.recovery := rfl
@[simp] theorem updJob_retention (f : Job → Job) : (s.updJob f).retention = s.retention := rfl
@[simp] theorem updJob_maps (f : Job → Job) : (s.updJob f).maps = s.maps := rfl
@[simp] theorem updJob_channels (f : Job → Job) : (s.updJob f).channels = s.channels := rfl
@[simp] theorem updJob_levels (f : Job → Job) : (s.updJob f).levels = s.levels := rfl
@[simp] theorem updJob_interlock (f : Job → Job) : (s.updJob f).interlock = s.interlock := rfl
@[simp] theorem updJob_log (f : Job → Job) : (s.updJob f).log = s.log := rfl
@[simp] theorem updJob_clock (f : Job → Job) : (s.updJob f).clock = s.clock := rfl
@[simp] theorem updJob_raised (f : Job → Job) : (s.updJob f).raised = s.raised := rfl
@[simp] theorem updJob_pins (f : Job → Job) : (s.updJob f).pins = s.pins := rfl
@[simp] theorem updJob_power (f : Job → Job) : (s.updJob f).power = s.power := rfl

@[simp] theorem updCavities_pending (f : Vector (Option Cavity) 64 → Vector (Option Cavity) 64) : (s.updCavities f).pending = s.pending := rfl
@[simp] theorem updCavities_link (f : Vector (Option Cavity) 64 → Vector (Option Cavity) 64) : (s.updCavities f).link = s.link := rfl
@[simp] theorem updCavities_limits (f : Vector (Option Cavity) 64 → Vector (Option Cavity) 64) : (s.updCavities f).limits = s.limits := rfl
@[simp] theorem updCavities_job (f : Vector (Option Cavity) 64 → Vector (Option Cavity) 64) : (s.updCavities f).job = s.job := rfl
@[simp] theorem updCavities_cavities (f : Vector (Option Cavity) 64 → Vector (Option Cavity) 64) : (s.updCavities f).cavities = f s.cavities := rfl
@[simp] theorem updCavities_runOrder (f : Vector (Option Cavity) 64 → Vector (Option Cavity) 64) : (s.updCavities f).runOrder = s.runOrder := rfl
@[simp] theorem updCavities_sepQueue (f : Vector (Option Cavity) 64 → Vector (Option Cavity) 64) : (s.updCavities f).sepQueue = s.sepQueue := rfl
@[simp] theorem updCavities_store (f : Vector (Option Cavity) 64 → Vector (Option Cavity) 64) : (s.updCavities f).store = s.store := rfl
@[simp] theorem updCavities_engine (f : Vector (Option Cavity) 64 → Vector (Option Cavity) 64) : (s.updCavities f).engine = s.engine := rfl
@[simp] theorem updCavities_feed (f : Vector (Option Cavity) 64 → Vector (Option Cavity) 64) : (s.updCavities f).feed = s.feed := rfl
@[simp] theorem updCavities_feedOverride (f : Vector (Option Cavity) 64 → Vector (Option Cavity) 64) : (s.updCavities f).feedOverride = s.feedOverride := rfl
@[simp] theorem updCavities_genWatch (f : Vector (Option Cavity) 64 → Vector (Option Cavity) 64) : (s.updCavities f).genWatch = s.genWatch := rfl
@[simp] theorem updCavities_driveWatch (f : Vector (Option Cavity) 64 → Vector (Option Cavity) 64) : (s.updCavities f).driveWatch = s.driveWatch := rfl
@[simp] theorem updCavities_profiles (f : Vector (Option Cavity) 64 → Vector (Option Cavity) 64) : (s.updCavities f).profiles = s.profiles := rfl
@[simp] theorem updCavities_threading (f : Vector (Option Cavity) 64 → Vector (Option Cavity) 64) : (s.updCavities f).threading = s.threading := rfl
@[simp] theorem updCavities_recovery (f : Vector (Option Cavity) 64 → Vector (Option Cavity) 64) : (s.updCavities f).recovery = s.recovery := rfl
@[simp] theorem updCavities_retention (f : Vector (Option Cavity) 64 → Vector (Option Cavity) 64) : (s.updCavities f).retention = s.retention := rfl
@[simp] theorem updCavities_maps (f : Vector (Option Cavity) 64 → Vector (Option Cavity) 64) : (s.updCavities f).maps = s.maps := rfl
@[simp] theorem updCavities_channels (f : Vector (Option Cavity) 64 → Vector (Option Cavity) 64) : (s.updCavities f).channels = s.channels := rfl
@[simp] theorem updCavities_levels (f : Vector (Option Cavity) 64 → Vector (Option Cavity) 64) : (s.updCavities f).levels = s.levels := rfl
@[simp] theorem updCavities_interlock (f : Vector (Option Cavity) 64 → Vector (Option Cavity) 64) : (s.updCavities f).interlock = s.interlock := rfl
@[simp] theorem updCavities_log (f : Vector (Option Cavity) 64 → Vector (Option Cavity) 64) : (s.updCavities f).log = s.log := rfl
@[simp] theorem updCavities_clock (f : Vector (Option Cavity) 64 → Vector (Option Cavity) 64) : (s.updCavities f).clock = s.clock := rfl
@[simp] theorem updCavities_raised (f : Vector (Option Cavity) 64 → Vector (Option Cavity) 64) : (s.updCavities f).raised = s.raised := rfl
@[simp] theorem updCavities_pins (f : Vector (Option Cavity) 64 → Vector (Option Cavity) 64) : (s.updCavities f).pins = s.pins := rfl
@[simp] theorem updCavities_power (f : Vector (Option Cavity) 64 → Vector (Option Cavity) 64) : (s.updCavities f).power = s.power := rfl

@[simp] theorem updRunOrder_pending (f : List CavityId → List CavityId) : (s.updRunOrder f).pending = s.pending := rfl
@[simp] theorem updRunOrder_link (f : List CavityId → List CavityId) : (s.updRunOrder f).link = s.link := rfl
@[simp] theorem updRunOrder_limits (f : List CavityId → List CavityId) : (s.updRunOrder f).limits = s.limits := rfl
@[simp] theorem updRunOrder_job (f : List CavityId → List CavityId) : (s.updRunOrder f).job = s.job := rfl
@[simp] theorem updRunOrder_cavities (f : List CavityId → List CavityId) : (s.updRunOrder f).cavities = s.cavities := rfl
@[simp] theorem updRunOrder_runOrder (f : List CavityId → List CavityId) : (s.updRunOrder f).runOrder = f s.runOrder := rfl
@[simp] theorem updRunOrder_sepQueue (f : List CavityId → List CavityId) : (s.updRunOrder f).sepQueue = s.sepQueue := rfl
@[simp] theorem updRunOrder_store (f : List CavityId → List CavityId) : (s.updRunOrder f).store = s.store := rfl
@[simp] theorem updRunOrder_engine (f : List CavityId → List CavityId) : (s.updRunOrder f).engine = s.engine := rfl
@[simp] theorem updRunOrder_feed (f : List CavityId → List CavityId) : (s.updRunOrder f).feed = s.feed := rfl
@[simp] theorem updRunOrder_feedOverride (f : List CavityId → List CavityId) : (s.updRunOrder f).feedOverride = s.feedOverride := rfl
@[simp] theorem updRunOrder_genWatch (f : List CavityId → List CavityId) : (s.updRunOrder f).genWatch = s.genWatch := rfl
@[simp] theorem updRunOrder_driveWatch (f : List CavityId → List CavityId) : (s.updRunOrder f).driveWatch = s.driveWatch := rfl
@[simp] theorem updRunOrder_profiles (f : List CavityId → List CavityId) : (s.updRunOrder f).profiles = s.profiles := rfl
@[simp] theorem updRunOrder_threading (f : List CavityId → List CavityId) : (s.updRunOrder f).threading = s.threading := rfl
@[simp] theorem updRunOrder_recovery (f : List CavityId → List CavityId) : (s.updRunOrder f).recovery = s.recovery := rfl
@[simp] theorem updRunOrder_retention (f : List CavityId → List CavityId) : (s.updRunOrder f).retention = s.retention := rfl
@[simp] theorem updRunOrder_maps (f : List CavityId → List CavityId) : (s.updRunOrder f).maps = s.maps := rfl
@[simp] theorem updRunOrder_channels (f : List CavityId → List CavityId) : (s.updRunOrder f).channels = s.channels := rfl
@[simp] theorem updRunOrder_levels (f : List CavityId → List CavityId) : (s.updRunOrder f).levels = s.levels := rfl
@[simp] theorem updRunOrder_interlock (f : List CavityId → List CavityId) : (s.updRunOrder f).interlock = s.interlock := rfl
@[simp] theorem updRunOrder_log (f : List CavityId → List CavityId) : (s.updRunOrder f).log = s.log := rfl
@[simp] theorem updRunOrder_clock (f : List CavityId → List CavityId) : (s.updRunOrder f).clock = s.clock := rfl
@[simp] theorem updRunOrder_raised (f : List CavityId → List CavityId) : (s.updRunOrder f).raised = s.raised := rfl
@[simp] theorem updRunOrder_pins (f : List CavityId → List CavityId) : (s.updRunOrder f).pins = s.pins := rfl
@[simp] theorem updRunOrder_power (f : List CavityId → List CavityId) : (s.updRunOrder f).power = s.power := rfl

@[simp] theorem updSepQueue_pending (f : List CavityId → List CavityId) : (s.updSepQueue f).pending = s.pending := rfl
@[simp] theorem updSepQueue_link (f : List CavityId → List CavityId) : (s.updSepQueue f).link = s.link := rfl
@[simp] theorem updSepQueue_limits (f : List CavityId → List CavityId) : (s.updSepQueue f).limits = s.limits := rfl
@[simp] theorem updSepQueue_job (f : List CavityId → List CavityId) : (s.updSepQueue f).job = s.job := rfl
@[simp] theorem updSepQueue_cavities (f : List CavityId → List CavityId) : (s.updSepQueue f).cavities = s.cavities := rfl
@[simp] theorem updSepQueue_runOrder (f : List CavityId → List CavityId) : (s.updSepQueue f).runOrder = s.runOrder := rfl
@[simp] theorem updSepQueue_sepQueue (f : List CavityId → List CavityId) : (s.updSepQueue f).sepQueue = f s.sepQueue := rfl
@[simp] theorem updSepQueue_store (f : List CavityId → List CavityId) : (s.updSepQueue f).store = s.store := rfl
@[simp] theorem updSepQueue_engine (f : List CavityId → List CavityId) : (s.updSepQueue f).engine = s.engine := rfl
@[simp] theorem updSepQueue_feed (f : List CavityId → List CavityId) : (s.updSepQueue f).feed = s.feed := rfl
@[simp] theorem updSepQueue_feedOverride (f : List CavityId → List CavityId) : (s.updSepQueue f).feedOverride = s.feedOverride := rfl
@[simp] theorem updSepQueue_genWatch (f : List CavityId → List CavityId) : (s.updSepQueue f).genWatch = s.genWatch := rfl
@[simp] theorem updSepQueue_driveWatch (f : List CavityId → List CavityId) : (s.updSepQueue f).driveWatch = s.driveWatch := rfl
@[simp] theorem updSepQueue_profiles (f : List CavityId → List CavityId) : (s.updSepQueue f).profiles = s.profiles := rfl
@[simp] theorem updSepQueue_threading (f : List CavityId → List CavityId) : (s.updSepQueue f).threading = s.threading := rfl
@[simp] theorem updSepQueue_recovery (f : List CavityId → List CavityId) : (s.updSepQueue f).recovery = s.recovery := rfl
@[simp] theorem updSepQueue_retention (f : List CavityId → List CavityId) : (s.updSepQueue f).retention = s.retention := rfl
@[simp] theorem updSepQueue_maps (f : List CavityId → List CavityId) : (s.updSepQueue f).maps = s.maps := rfl
@[simp] theorem updSepQueue_channels (f : List CavityId → List CavityId) : (s.updSepQueue f).channels = s.channels := rfl
@[simp] theorem updSepQueue_levels (f : List CavityId → List CavityId) : (s.updSepQueue f).levels = s.levels := rfl
@[simp] theorem updSepQueue_interlock (f : List CavityId → List CavityId) : (s.updSepQueue f).interlock = s.interlock := rfl
@[simp] theorem updSepQueue_log (f : List CavityId → List CavityId) : (s.updSepQueue f).log = s.log := rfl
@[simp] theorem updSepQueue_clock (f : List CavityId → List CavityId) : (s.updSepQueue f).clock = s.clock := rfl
@[simp] theorem updSepQueue_raised (f : List CavityId → List CavityId) : (s.updSepQueue f).raised = s.raised := rfl
@[simp] theorem updSepQueue_pins (f : List CavityId → List CavityId) : (s.updSepQueue f).pins = s.pins := rfl
@[simp] theorem updSepQueue_power (f : List CavityId → List CavityId) : (s.updSepQueue f).power = s.power := rfl

@[simp] theorem updStore_pending (f : Store → Store) : (s.updStore f).pending = s.pending := rfl
@[simp] theorem updStore_link (f : Store → Store) : (s.updStore f).link = s.link := rfl
@[simp] theorem updStore_limits (f : Store → Store) : (s.updStore f).limits = s.limits := rfl
@[simp] theorem updStore_job (f : Store → Store) : (s.updStore f).job = s.job := rfl
@[simp] theorem updStore_cavities (f : Store → Store) : (s.updStore f).cavities = s.cavities := rfl
@[simp] theorem updStore_runOrder (f : Store → Store) : (s.updStore f).runOrder = s.runOrder := rfl
@[simp] theorem updStore_sepQueue (f : Store → Store) : (s.updStore f).sepQueue = s.sepQueue := rfl
@[simp] theorem updStore_store (f : Store → Store) : (s.updStore f).store = f s.store := rfl
@[simp] theorem updStore_engine (f : Store → Store) : (s.updStore f).engine = s.engine := rfl
@[simp] theorem updStore_feed (f : Store → Store) : (s.updStore f).feed = s.feed := rfl
@[simp] theorem updStore_feedOverride (f : Store → Store) : (s.updStore f).feedOverride = s.feedOverride := rfl
@[simp] theorem updStore_genWatch (f : Store → Store) : (s.updStore f).genWatch = s.genWatch := rfl
@[simp] theorem updStore_driveWatch (f : Store → Store) : (s.updStore f).driveWatch = s.driveWatch := rfl
@[simp] theorem updStore_profiles (f : Store → Store) : (s.updStore f).profiles = s.profiles := rfl
@[simp] theorem updStore_threading (f : Store → Store) : (s.updStore f).threading = s.threading := rfl
@[simp] theorem updStore_recovery (f : Store → Store) : (s.updStore f).recovery = s.recovery := rfl
@[simp] theorem updStore_retention (f : Store → Store) : (s.updStore f).retention = s.retention := rfl
@[simp] theorem updStore_maps (f : Store → Store) : (s.updStore f).maps = s.maps := rfl
@[simp] theorem updStore_channels (f : Store → Store) : (s.updStore f).channels = s.channels := rfl
@[simp] theorem updStore_levels (f : Store → Store) : (s.updStore f).levels = s.levels := rfl
@[simp] theorem updStore_interlock (f : Store → Store) : (s.updStore f).interlock = s.interlock := rfl
@[simp] theorem updStore_log (f : Store → Store) : (s.updStore f).log = s.log := rfl
@[simp] theorem updStore_clock (f : Store → Store) : (s.updStore f).clock = s.clock := rfl
@[simp] theorem updStore_raised (f : Store → Store) : (s.updStore f).raised = s.raised := rfl
@[simp] theorem updStore_pins (f : Store → Store) : (s.updStore f).pins = s.pins := rfl
@[simp] theorem updStore_power (f : Store → Store) : (s.updStore f).power = s.power := rfl

@[simp] theorem updEngine_pending (f : Engine → Engine) : (s.updEngine f).pending = s.pending := rfl
@[simp] theorem updEngine_link (f : Engine → Engine) : (s.updEngine f).link = s.link := rfl
@[simp] theorem updEngine_limits (f : Engine → Engine) : (s.updEngine f).limits = s.limits := rfl
@[simp] theorem updEngine_job (f : Engine → Engine) : (s.updEngine f).job = s.job := rfl
@[simp] theorem updEngine_cavities (f : Engine → Engine) : (s.updEngine f).cavities = s.cavities := rfl
@[simp] theorem updEngine_runOrder (f : Engine → Engine) : (s.updEngine f).runOrder = s.runOrder := rfl
@[simp] theorem updEngine_sepQueue (f : Engine → Engine) : (s.updEngine f).sepQueue = s.sepQueue := rfl
@[simp] theorem updEngine_store (f : Engine → Engine) : (s.updEngine f).store = s.store := rfl
@[simp] theorem updEngine_engine (f : Engine → Engine) : (s.updEngine f).engine = f s.engine := rfl
@[simp] theorem updEngine_feed (f : Engine → Engine) : (s.updEngine f).feed = s.feed := rfl
@[simp] theorem updEngine_feedOverride (f : Engine → Engine) : (s.updEngine f).feedOverride = s.feedOverride := rfl
@[simp] theorem updEngine_genWatch (f : Engine → Engine) : (s.updEngine f).genWatch = s.genWatch := rfl
@[simp] theorem updEngine_driveWatch (f : Engine → Engine) : (s.updEngine f).driveWatch = s.driveWatch := rfl
@[simp] theorem updEngine_profiles (f : Engine → Engine) : (s.updEngine f).profiles = s.profiles := rfl
@[simp] theorem updEngine_threading (f : Engine → Engine) : (s.updEngine f).threading = s.threading := rfl
@[simp] theorem updEngine_recovery (f : Engine → Engine) : (s.updEngine f).recovery = s.recovery := rfl
@[simp] theorem updEngine_retention (f : Engine → Engine) : (s.updEngine f).retention = s.retention := rfl
@[simp] theorem updEngine_maps (f : Engine → Engine) : (s.updEngine f).maps = s.maps := rfl
@[simp] theorem updEngine_channels (f : Engine → Engine) : (s.updEngine f).channels = s.channels := rfl
@[simp] theorem updEngine_levels (f : Engine → Engine) : (s.updEngine f).levels = s.levels := rfl
@[simp] theorem updEngine_interlock (f : Engine → Engine) : (s.updEngine f).interlock = s.interlock := rfl
@[simp] theorem updEngine_log (f : Engine → Engine) : (s.updEngine f).log = s.log := rfl
@[simp] theorem updEngine_clock (f : Engine → Engine) : (s.updEngine f).clock = s.clock := rfl
@[simp] theorem updEngine_raised (f : Engine → Engine) : (s.updEngine f).raised = s.raised := rfl
@[simp] theorem updEngine_pins (f : Engine → Engine) : (s.updEngine f).pins = s.pins := rfl
@[simp] theorem updEngine_power (f : Engine → Engine) : (s.updEngine f).power = s.power := rfl

@[simp] theorem updFeed_pending (f : Vector FeedClass 8 → Vector FeedClass 8) : (s.updFeed f).pending = s.pending := rfl
@[simp] theorem updFeed_link (f : Vector FeedClass 8 → Vector FeedClass 8) : (s.updFeed f).link = s.link := rfl
@[simp] theorem updFeed_limits (f : Vector FeedClass 8 → Vector FeedClass 8) : (s.updFeed f).limits = s.limits := rfl
@[simp] theorem updFeed_job (f : Vector FeedClass 8 → Vector FeedClass 8) : (s.updFeed f).job = s.job := rfl
@[simp] theorem updFeed_cavities (f : Vector FeedClass 8 → Vector FeedClass 8) : (s.updFeed f).cavities = s.cavities := rfl
@[simp] theorem updFeed_runOrder (f : Vector FeedClass 8 → Vector FeedClass 8) : (s.updFeed f).runOrder = s.runOrder := rfl
@[simp] theorem updFeed_sepQueue (f : Vector FeedClass 8 → Vector FeedClass 8) : (s.updFeed f).sepQueue = s.sepQueue := rfl
@[simp] theorem updFeed_store (f : Vector FeedClass 8 → Vector FeedClass 8) : (s.updFeed f).store = s.store := rfl
@[simp] theorem updFeed_engine (f : Vector FeedClass 8 → Vector FeedClass 8) : (s.updFeed f).engine = s.engine := rfl
@[simp] theorem updFeed_feed (f : Vector FeedClass 8 → Vector FeedClass 8) : (s.updFeed f).feed = f s.feed := rfl
@[simp] theorem updFeed_feedOverride (f : Vector FeedClass 8 → Vector FeedClass 8) : (s.updFeed f).feedOverride = s.feedOverride := rfl
@[simp] theorem updFeed_genWatch (f : Vector FeedClass 8 → Vector FeedClass 8) : (s.updFeed f).genWatch = s.genWatch := rfl
@[simp] theorem updFeed_driveWatch (f : Vector FeedClass 8 → Vector FeedClass 8) : (s.updFeed f).driveWatch = s.driveWatch := rfl
@[simp] theorem updFeed_profiles (f : Vector FeedClass 8 → Vector FeedClass 8) : (s.updFeed f).profiles = s.profiles := rfl
@[simp] theorem updFeed_threading (f : Vector FeedClass 8 → Vector FeedClass 8) : (s.updFeed f).threading = s.threading := rfl
@[simp] theorem updFeed_recovery (f : Vector FeedClass 8 → Vector FeedClass 8) : (s.updFeed f).recovery = s.recovery := rfl
@[simp] theorem updFeed_retention (f : Vector FeedClass 8 → Vector FeedClass 8) : (s.updFeed f).retention = s.retention := rfl
@[simp] theorem updFeed_maps (f : Vector FeedClass 8 → Vector FeedClass 8) : (s.updFeed f).maps = s.maps := rfl
@[simp] theorem updFeed_channels (f : Vector FeedClass 8 → Vector FeedClass 8) : (s.updFeed f).channels = s.channels := rfl
@[simp] theorem updFeed_levels (f : Vector FeedClass 8 → Vector FeedClass 8) : (s.updFeed f).levels = s.levels := rfl
@[simp] theorem updFeed_interlock (f : Vector FeedClass 8 → Vector FeedClass 8) : (s.updFeed f).interlock = s.interlock := rfl
@[simp] theorem updFeed_log (f : Vector FeedClass 8 → Vector FeedClass 8) : (s.updFeed f).log = s.log := rfl
@[simp] theorem updFeed_clock (f : Vector FeedClass 8 → Vector FeedClass 8) : (s.updFeed f).clock = s.clock := rfl
@[simp] theorem updFeed_raised (f : Vector FeedClass 8 → Vector FeedClass 8) : (s.updFeed f).raised = s.raised := rfl
@[simp] theorem updFeed_pins (f : Vector FeedClass 8 → Vector FeedClass 8) : (s.updFeed f).pins = s.pins := rfl
@[simp] theorem updFeed_power (f : Vector FeedClass 8 → Vector FeedClass 8) : (s.updFeed f).power = s.power := rfl

@[simp] theorem updFeedOverride_pending (f : Nat → Nat) : (s.updFeedOverride f).pending = s.pending := rfl
@[simp] theorem updFeedOverride_link (f : Nat → Nat) : (s.updFeedOverride f).link = s.link := rfl
@[simp] theorem updFeedOverride_limits (f : Nat → Nat) : (s.updFeedOverride f).limits = s.limits := rfl
@[simp] theorem updFeedOverride_job (f : Nat → Nat) : (s.updFeedOverride f).job = s.job := rfl
@[simp] theorem updFeedOverride_cavities (f : Nat → Nat) : (s.updFeedOverride f).cavities = s.cavities := rfl
@[simp] theorem updFeedOverride_runOrder (f : Nat → Nat) : (s.updFeedOverride f).runOrder = s.runOrder := rfl
@[simp] theorem updFeedOverride_sepQueue (f : Nat → Nat) : (s.updFeedOverride f).sepQueue = s.sepQueue := rfl
@[simp] theorem updFeedOverride_store (f : Nat → Nat) : (s.updFeedOverride f).store = s.store := rfl
@[simp] theorem updFeedOverride_engine (f : Nat → Nat) : (s.updFeedOverride f).engine = s.engine := rfl
@[simp] theorem updFeedOverride_feed (f : Nat → Nat) : (s.updFeedOverride f).feed = s.feed := rfl
@[simp] theorem updFeedOverride_feedOverride (f : Nat → Nat) : (s.updFeedOverride f).feedOverride = f s.feedOverride := rfl
@[simp] theorem updFeedOverride_genWatch (f : Nat → Nat) : (s.updFeedOverride f).genWatch = s.genWatch := rfl
@[simp] theorem updFeedOverride_driveWatch (f : Nat → Nat) : (s.updFeedOverride f).driveWatch = s.driveWatch := rfl
@[simp] theorem updFeedOverride_profiles (f : Nat → Nat) : (s.updFeedOverride f).profiles = s.profiles := rfl
@[simp] theorem updFeedOverride_threading (f : Nat → Nat) : (s.updFeedOverride f).threading = s.threading := rfl
@[simp] theorem updFeedOverride_recovery (f : Nat → Nat) : (s.updFeedOverride f).recovery = s.recovery := rfl
@[simp] theorem updFeedOverride_retention (f : Nat → Nat) : (s.updFeedOverride f).retention = s.retention := rfl
@[simp] theorem updFeedOverride_maps (f : Nat → Nat) : (s.updFeedOverride f).maps = s.maps := rfl
@[simp] theorem updFeedOverride_channels (f : Nat → Nat) : (s.updFeedOverride f).channels = s.channels := rfl
@[simp] theorem updFeedOverride_levels (f : Nat → Nat) : (s.updFeedOverride f).levels = s.levels := rfl
@[simp] theorem updFeedOverride_interlock (f : Nat → Nat) : (s.updFeedOverride f).interlock = s.interlock := rfl
@[simp] theorem updFeedOverride_log (f : Nat → Nat) : (s.updFeedOverride f).log = s.log := rfl
@[simp] theorem updFeedOverride_clock (f : Nat → Nat) : (s.updFeedOverride f).clock = s.clock := rfl
@[simp] theorem updFeedOverride_raised (f : Nat → Nat) : (s.updFeedOverride f).raised = s.raised := rfl
@[simp] theorem updFeedOverride_pins (f : Nat → Nat) : (s.updFeedOverride f).pins = s.pins := rfl
@[simp] theorem updFeedOverride_power (f : Nat → Nat) : (s.updFeedOverride f).power = s.power := rfl

@[simp] theorem updGenWatch_pending (f : Watch → Watch) : (s.updGenWatch f).pending = s.pending := rfl
@[simp] theorem updGenWatch_link (f : Watch → Watch) : (s.updGenWatch f).link = s.link := rfl
@[simp] theorem updGenWatch_limits (f : Watch → Watch) : (s.updGenWatch f).limits = s.limits := rfl
@[simp] theorem updGenWatch_job (f : Watch → Watch) : (s.updGenWatch f).job = s.job := rfl
@[simp] theorem updGenWatch_cavities (f : Watch → Watch) : (s.updGenWatch f).cavities = s.cavities := rfl
@[simp] theorem updGenWatch_runOrder (f : Watch → Watch) : (s.updGenWatch f).runOrder = s.runOrder := rfl
@[simp] theorem updGenWatch_sepQueue (f : Watch → Watch) : (s.updGenWatch f).sepQueue = s.sepQueue := rfl
@[simp] theorem updGenWatch_store (f : Watch → Watch) : (s.updGenWatch f).store = s.store := rfl
@[simp] theorem updGenWatch_engine (f : Watch → Watch) : (s.updGenWatch f).engine = s.engine := rfl
@[simp] theorem updGenWatch_feed (f : Watch → Watch) : (s.updGenWatch f).feed = s.feed := rfl
@[simp] theorem updGenWatch_feedOverride (f : Watch → Watch) : (s.updGenWatch f).feedOverride = s.feedOverride := rfl
@[simp] theorem updGenWatch_genWatch (f : Watch → Watch) : (s.updGenWatch f).genWatch = f s.genWatch := rfl
@[simp] theorem updGenWatch_driveWatch (f : Watch → Watch) : (s.updGenWatch f).driveWatch = s.driveWatch := rfl
@[simp] theorem updGenWatch_profiles (f : Watch → Watch) : (s.updGenWatch f).profiles = s.profiles := rfl
@[simp] theorem updGenWatch_threading (f : Watch → Watch) : (s.updGenWatch f).threading = s.threading := rfl
@[simp] theorem updGenWatch_recovery (f : Watch → Watch) : (s.updGenWatch f).recovery = s.recovery := rfl
@[simp] theorem updGenWatch_retention (f : Watch → Watch) : (s.updGenWatch f).retention = s.retention := rfl
@[simp] theorem updGenWatch_maps (f : Watch → Watch) : (s.updGenWatch f).maps = s.maps := rfl
@[simp] theorem updGenWatch_channels (f : Watch → Watch) : (s.updGenWatch f).channels = s.channels := rfl
@[simp] theorem updGenWatch_levels (f : Watch → Watch) : (s.updGenWatch f).levels = s.levels := rfl
@[simp] theorem updGenWatch_interlock (f : Watch → Watch) : (s.updGenWatch f).interlock = s.interlock := rfl
@[simp] theorem updGenWatch_log (f : Watch → Watch) : (s.updGenWatch f).log = s.log := rfl
@[simp] theorem updGenWatch_clock (f : Watch → Watch) : (s.updGenWatch f).clock = s.clock := rfl
@[simp] theorem updGenWatch_raised (f : Watch → Watch) : (s.updGenWatch f).raised = s.raised := rfl
@[simp] theorem updGenWatch_pins (f : Watch → Watch) : (s.updGenWatch f).pins = s.pins := rfl
@[simp] theorem updGenWatch_power (f : Watch → Watch) : (s.updGenWatch f).power = s.power := rfl

@[simp] theorem updDriveWatch_pending (f : Watch → Watch) : (s.updDriveWatch f).pending = s.pending := rfl
@[simp] theorem updDriveWatch_link (f : Watch → Watch) : (s.updDriveWatch f).link = s.link := rfl
@[simp] theorem updDriveWatch_limits (f : Watch → Watch) : (s.updDriveWatch f).limits = s.limits := rfl
@[simp] theorem updDriveWatch_job (f : Watch → Watch) : (s.updDriveWatch f).job = s.job := rfl
@[simp] theorem updDriveWatch_cavities (f : Watch → Watch) : (s.updDriveWatch f).cavities = s.cavities := rfl
@[simp] theorem updDriveWatch_runOrder (f : Watch → Watch) : (s.updDriveWatch f).runOrder = s.runOrder := rfl
@[simp] theorem updDriveWatch_sepQueue (f : Watch → Watch) : (s.updDriveWatch f).sepQueue = s.sepQueue := rfl
@[simp] theorem updDriveWatch_store (f : Watch → Watch) : (s.updDriveWatch f).store = s.store := rfl
@[simp] theorem updDriveWatch_engine (f : Watch → Watch) : (s.updDriveWatch f).engine = s.engine := rfl
@[simp] theorem updDriveWatch_feed (f : Watch → Watch) : (s.updDriveWatch f).feed = s.feed := rfl
@[simp] theorem updDriveWatch_feedOverride (f : Watch → Watch) : (s.updDriveWatch f).feedOverride = s.feedOverride := rfl
@[simp] theorem updDriveWatch_genWatch (f : Watch → Watch) : (s.updDriveWatch f).genWatch = s.genWatch := rfl
@[simp] theorem updDriveWatch_driveWatch (f : Watch → Watch) : (s.updDriveWatch f).driveWatch = f s.driveWatch := rfl
@[simp] theorem updDriveWatch_profiles (f : Watch → Watch) : (s.updDriveWatch f).profiles = s.profiles := rfl
@[simp] theorem updDriveWatch_threading (f : Watch → Watch) : (s.updDriveWatch f).threading = s.threading := rfl
@[simp] theorem updDriveWatch_recovery (f : Watch → Watch) : (s.updDriveWatch f).recovery = s.recovery := rfl
@[simp] theorem updDriveWatch_retention (f : Watch → Watch) : (s.updDriveWatch f).retention = s.retention := rfl
@[simp] theorem updDriveWatch_maps (f : Watch → Watch) : (s.updDriveWatch f).maps = s.maps := rfl
@[simp] theorem updDriveWatch_channels (f : Watch → Watch) : (s.updDriveWatch f).channels = s.channels := rfl
@[simp] theorem updDriveWatch_levels (f : Watch → Watch) : (s.updDriveWatch f).levels = s.levels := rfl
@[simp] theorem updDriveWatch_interlock (f : Watch → Watch) : (s.updDriveWatch f).interlock = s.interlock := rfl
@[simp] theorem updDriveWatch_log (f : Watch → Watch) : (s.updDriveWatch f).log = s.log := rfl
@[simp] theorem updDriveWatch_clock (f : Watch → Watch) : (s.updDriveWatch f).clock = s.clock := rfl
@[simp] theorem updDriveWatch_raised (f : Watch → Watch) : (s.updDriveWatch f).raised = s.raised := rfl
@[simp] theorem updDriveWatch_pins (f : Watch → Watch) : (s.updDriveWatch f).pins = s.pins := rfl
@[simp] theorem updDriveWatch_power (f : Watch → Watch) : (s.updDriveWatch f).power = s.power := rfl

@[simp] theorem updProfiles_pending (f : Vector Profile 4 → Vector Profile 4) : (s.updProfiles f).pending = s.pending := rfl
@[simp] theorem updProfiles_link (f : Vector Profile 4 → Vector Profile 4) : (s.updProfiles f).link = s.link := rfl
@[simp] theorem updProfiles_limits (f : Vector Profile 4 → Vector Profile 4) : (s.updProfiles f).limits = s.limits := rfl
@[simp] theorem updProfiles_job (f : Vector Profile 4 → Vector Profile 4) : (s.updProfiles f).job = s.job := rfl
@[simp] theorem updProfiles_cavities (f : Vector Profile 4 → Vector Profile 4) : (s.updProfiles f).cavities = s.cavities := rfl
@[simp] theorem updProfiles_runOrder (f : Vector Profile 4 → Vector Profile 4) : (s.updProfiles f).runOrder = s.runOrder := rfl
@[simp] theorem updProfiles_sepQueue (f : Vector Profile 4 → Vector Profile 4) : (s.updProfiles f).sepQueue = s.sepQueue := rfl
@[simp] theorem updProfiles_store (f : Vector Profile 4 → Vector Profile 4) : (s.updProfiles f).store = s.store := rfl
@[simp] theorem updProfiles_engine (f : Vector Profile 4 → Vector Profile 4) : (s.updProfiles f).engine = s.engine := rfl
@[simp] theorem updProfiles_feed (f : Vector Profile 4 → Vector Profile 4) : (s.updProfiles f).feed = s.feed := rfl
@[simp] theorem updProfiles_feedOverride (f : Vector Profile 4 → Vector Profile 4) : (s.updProfiles f).feedOverride = s.feedOverride := rfl
@[simp] theorem updProfiles_genWatch (f : Vector Profile 4 → Vector Profile 4) : (s.updProfiles f).genWatch = s.genWatch := rfl
@[simp] theorem updProfiles_driveWatch (f : Vector Profile 4 → Vector Profile 4) : (s.updProfiles f).driveWatch = s.driveWatch := rfl
@[simp] theorem updProfiles_profiles (f : Vector Profile 4 → Vector Profile 4) : (s.updProfiles f).profiles = f s.profiles := rfl
@[simp] theorem updProfiles_threading (f : Vector Profile 4 → Vector Profile 4) : (s.updProfiles f).threading = s.threading := rfl
@[simp] theorem updProfiles_recovery (f : Vector Profile 4 → Vector Profile 4) : (s.updProfiles f).recovery = s.recovery := rfl
@[simp] theorem updProfiles_retention (f : Vector Profile 4 → Vector Profile 4) : (s.updProfiles f).retention = s.retention := rfl
@[simp] theorem updProfiles_maps (f : Vector Profile 4 → Vector Profile 4) : (s.updProfiles f).maps = s.maps := rfl
@[simp] theorem updProfiles_channels (f : Vector Profile 4 → Vector Profile 4) : (s.updProfiles f).channels = s.channels := rfl
@[simp] theorem updProfiles_levels (f : Vector Profile 4 → Vector Profile 4) : (s.updProfiles f).levels = s.levels := rfl
@[simp] theorem updProfiles_interlock (f : Vector Profile 4 → Vector Profile 4) : (s.updProfiles f).interlock = s.interlock := rfl
@[simp] theorem updProfiles_log (f : Vector Profile 4 → Vector Profile 4) : (s.updProfiles f).log = s.log := rfl
@[simp] theorem updProfiles_clock (f : Vector Profile 4 → Vector Profile 4) : (s.updProfiles f).clock = s.clock := rfl
@[simp] theorem updProfiles_raised (f : Vector Profile 4 → Vector Profile 4) : (s.updProfiles f).raised = s.raised := rfl
@[simp] theorem updProfiles_pins (f : Vector Profile 4 → Vector Profile 4) : (s.updProfiles f).pins = s.pins := rfl
@[simp] theorem updProfiles_power (f : Vector Profile 4 → Vector Profile 4) : (s.updProfiles f).power = s.power := rfl

@[simp] theorem updThreading_pending (f : Threading → Threading) : (s.updThreading f).pending = s.pending := rfl
@[simp] theorem updThreading_link (f : Threading → Threading) : (s.updThreading f).link = s.link := rfl
@[simp] theorem updThreading_limits (f : Threading → Threading) : (s.updThreading f).limits = s.limits := rfl
@[simp] theorem updThreading_job (f : Threading → Threading) : (s.updThreading f).job = s.job := rfl
@[simp] theorem updThreading_cavities (f : Threading → Threading) : (s.updThreading f).cavities = s.cavities := rfl
@[simp] theorem updThreading_runOrder (f : Threading → Threading) : (s.updThreading f).runOrder = s.runOrder := rfl
@[simp] theorem updThreading_sepQueue (f : Threading → Threading) : (s.updThreading f).sepQueue = s.sepQueue := rfl
@[simp] theorem updThreading_store (f : Threading → Threading) : (s.updThreading f).store = s.store := rfl
@[simp] theorem updThreading_engine (f : Threading → Threading) : (s.updThreading f).engine = s.engine := rfl
@[simp] theorem updThreading_feed (f : Threading → Threading) : (s.updThreading f).feed = s.feed := rfl
@[simp] theorem updThreading_feedOverride (f : Threading → Threading) : (s.updThreading f).feedOverride = s.feedOverride := rfl
@[simp] theorem updThreading_genWatch (f : Threading → Threading) : (s.updThreading f).genWatch = s.genWatch := rfl
@[simp] theorem updThreading_driveWatch (f : Threading → Threading) : (s.updThreading f).driveWatch = s.driveWatch := rfl
@[simp] theorem updThreading_profiles (f : Threading → Threading) : (s.updThreading f).profiles = s.profiles := rfl
@[simp] theorem updThreading_threading (f : Threading → Threading) : (s.updThreading f).threading = f s.threading := rfl
@[simp] theorem updThreading_recovery (f : Threading → Threading) : (s.updThreading f).recovery = s.recovery := rfl
@[simp] theorem updThreading_retention (f : Threading → Threading) : (s.updThreading f).retention = s.retention := rfl
@[simp] theorem updThreading_maps (f : Threading → Threading) : (s.updThreading f).maps = s.maps := rfl
@[simp] theorem updThreading_channels (f : Threading → Threading) : (s.updThreading f).channels = s.channels := rfl
@[simp] theorem updThreading_levels (f : Threading → Threading) : (s.updThreading f).levels = s.levels := rfl
@[simp] theorem updThreading_interlock (f : Threading → Threading) : (s.updThreading f).interlock = s.interlock := rfl
@[simp] theorem updThreading_log (f : Threading → Threading) : (s.updThreading f).log = s.log := rfl
@[simp] theorem updThreading_clock (f : Threading → Threading) : (s.updThreading f).clock = s.clock := rfl
@[simp] theorem updThreading_raised (f : Threading → Threading) : (s.updThreading f).raised = s.raised := rfl
@[simp] theorem updThreading_pins (f : Threading → Threading) : (s.updThreading f).pins = s.pins := rfl
@[simp] theorem updThreading_power (f : Threading → Threading) : (s.updThreading f).power = s.power := rfl

@[simp] theorem updRecovery_pending (f : Recovery → Recovery) : (s.updRecovery f).pending = s.pending := rfl
@[simp] theorem updRecovery_link (f : Recovery → Recovery) : (s.updRecovery f).link = s.link := rfl
@[simp] theorem updRecovery_limits (f : Recovery → Recovery) : (s.updRecovery f).limits = s.limits := rfl
@[simp] theorem updRecovery_job (f : Recovery → Recovery) : (s.updRecovery f).job = s.job := rfl
@[simp] theorem updRecovery_cavities (f : Recovery → Recovery) : (s.updRecovery f).cavities = s.cavities := rfl
@[simp] theorem updRecovery_runOrder (f : Recovery → Recovery) : (s.updRecovery f).runOrder = s.runOrder := rfl
@[simp] theorem updRecovery_sepQueue (f : Recovery → Recovery) : (s.updRecovery f).sepQueue = s.sepQueue := rfl
@[simp] theorem updRecovery_store (f : Recovery → Recovery) : (s.updRecovery f).store = s.store := rfl
@[simp] theorem updRecovery_engine (f : Recovery → Recovery) : (s.updRecovery f).engine = s.engine := rfl
@[simp] theorem updRecovery_feed (f : Recovery → Recovery) : (s.updRecovery f).feed = s.feed := rfl
@[simp] theorem updRecovery_feedOverride (f : Recovery → Recovery) : (s.updRecovery f).feedOverride = s.feedOverride := rfl
@[simp] theorem updRecovery_genWatch (f : Recovery → Recovery) : (s.updRecovery f).genWatch = s.genWatch := rfl
@[simp] theorem updRecovery_driveWatch (f : Recovery → Recovery) : (s.updRecovery f).driveWatch = s.driveWatch := rfl
@[simp] theorem updRecovery_profiles (f : Recovery → Recovery) : (s.updRecovery f).profiles = s.profiles := rfl
@[simp] theorem updRecovery_threading (f : Recovery → Recovery) : (s.updRecovery f).threading = s.threading := rfl
@[simp] theorem updRecovery_recovery (f : Recovery → Recovery) : (s.updRecovery f).recovery = f s.recovery := rfl
@[simp] theorem updRecovery_retention (f : Recovery → Recovery) : (s.updRecovery f).retention = s.retention := rfl
@[simp] theorem updRecovery_maps (f : Recovery → Recovery) : (s.updRecovery f).maps = s.maps := rfl
@[simp] theorem updRecovery_channels (f : Recovery → Recovery) : (s.updRecovery f).channels = s.channels := rfl
@[simp] theorem updRecovery_levels (f : Recovery → Recovery) : (s.updRecovery f).levels = s.levels := rfl
@[simp] theorem updRecovery_interlock (f : Recovery → Recovery) : (s.updRecovery f).interlock = s.interlock := rfl
@[simp] theorem updRecovery_log (f : Recovery → Recovery) : (s.updRecovery f).log = s.log := rfl
@[simp] theorem updRecovery_clock (f : Recovery → Recovery) : (s.updRecovery f).clock = s.clock := rfl
@[simp] theorem updRecovery_raised (f : Recovery → Recovery) : (s.updRecovery f).raised = s.raised := rfl
@[simp] theorem updRecovery_pins (f : Recovery → Recovery) : (s.updRecovery f).pins = s.pins := rfl
@[simp] theorem updRecovery_power (f : Recovery → Recovery) : (s.updRecovery f).power = s.power := rfl

@[simp] theorem updRetention_pending (f : Retention → Retention) : (s.updRetention f).pending = s.pending := rfl
@[simp] theorem updRetention_link (f : Retention → Retention) : (s.updRetention f).link = s.link := rfl
@[simp] theorem updRetention_limits (f : Retention → Retention) : (s.updRetention f).limits = s.limits := rfl
@[simp] theorem updRetention_job (f : Retention → Retention) : (s.updRetention f).job = s.job := rfl
@[simp] theorem updRetention_cavities (f : Retention → Retention) : (s.updRetention f).cavities = s.cavities := rfl
@[simp] theorem updRetention_runOrder (f : Retention → Retention) : (s.updRetention f).runOrder = s.runOrder := rfl
@[simp] theorem updRetention_sepQueue (f : Retention → Retention) : (s.updRetention f).sepQueue = s.sepQueue := rfl
@[simp] theorem updRetention_store (f : Retention → Retention) : (s.updRetention f).store = s.store := rfl
@[simp] theorem updRetention_engine (f : Retention → Retention) : (s.updRetention f).engine = s.engine := rfl
@[simp] theorem updRetention_feed (f : Retention → Retention) : (s.updRetention f).feed = s.feed := rfl
@[simp] theorem updRetention_feedOverride (f : Retention → Retention) : (s.updRetention f).feedOverride = s.feedOverride := rfl
@[simp] theorem updRetention_genWatch (f : Retention → Retention) : (s.updRetention f).genWatch = s.genWatch := rfl
@[simp] theorem updRetention_driveWatch (f : Retention → Retention) : (s.updRetention f).driveWatch = s.driveWatch := rfl
@[simp] theorem updRetention_profiles (f : Retention → Retention) : (s.updRetention f).profiles = s.profiles := rfl
@[simp] theorem updRetention_threading (f : Retention → Retention) : (s.updRetention f).threading = s.threading := rfl
@[simp] theorem updRetention_recovery (f : Retention → Retention) : (s.updRetention f).recovery = s.recovery := rfl
@[simp] theorem updRetention_retention (f : Retention → Retention) : (s.updRetention f).retention = f s.retention := rfl
@[simp] theorem updRetention_maps (f : Retention → Retention) : (s.updRetention f).maps = s.maps := rfl
@[simp] theorem updRetention_channels (f : Retention → Retention) : (s.updRetention f).channels = s.channels := rfl
@[simp] theorem updRetention_levels (f : Retention → Retention) : (s.updRetention f).levels = s.levels := rfl
@[simp] theorem updRetention_interlock (f : Retention → Retention) : (s.updRetention f).interlock = s.interlock := rfl
@[simp] theorem updRetention_log (f : Retention → Retention) : (s.updRetention f).log = s.log := rfl
@[simp] theorem updRetention_clock (f : Retention → Retention) : (s.updRetention f).clock = s.clock := rfl
@[simp] theorem updRetention_raised (f : Retention → Retention) : (s.updRetention f).raised = s.raised := rfl
@[simp] theorem updRetention_pins (f : Retention → Retention) : (s.updRetention f).pins = s.pins := rfl
@[simp] theorem updRetention_power (f : Retention → Retention) : (s.updRetention f).power = s.power := rfl

@[simp] theorem updMaps_pending (f : EventMap → EventMap) : (s.updMaps f).pending = s.pending := rfl
@[simp] theorem updMaps_link (f : EventMap → EventMap) : (s.updMaps f).link = s.link := rfl
@[simp] theorem updMaps_limits (f : EventMap → EventMap) : (s.updMaps f).limits = s.limits := rfl
@[simp] theorem updMaps_job (f : EventMap → EventMap) : (s.updMaps f).job = s.job := rfl
@[simp] theorem updMaps_cavities (f : EventMap → EventMap) : (s.updMaps f).cavities = s.cavities := rfl
@[simp] theorem updMaps_runOrder (f : EventMap → EventMap) : (s.updMaps f).runOrder = s.runOrder := rfl
@[simp] theorem updMaps_sepQueue (f : EventMap → EventMap) : (s.updMaps f).sepQueue = s.sepQueue := rfl
@[simp] theorem updMaps_store (f : EventMap → EventMap) : (s.updMaps f).store = s.store := rfl
@[simp] theorem updMaps_engine (f : EventMap → EventMap) : (s.updMaps f).engine = s.engine := rfl
@[simp] theorem updMaps_feed (f : EventMap → EventMap) : (s.updMaps f).feed = s.feed := rfl
@[simp] theorem updMaps_feedOverride (f : EventMap → EventMap) : (s.updMaps f).feedOverride = s.feedOverride := rfl
@[simp] theorem updMaps_genWatch (f : EventMap → EventMap) : (s.updMaps f).genWatch = s.genWatch := rfl
@[simp] theorem updMaps_driveWatch (f : EventMap → EventMap) : (s.updMaps f).driveWatch = s.driveWatch := rfl
@[simp] theorem updMaps_profiles (f : EventMap → EventMap) : (s.updMaps f).profiles = s.profiles := rfl
@[simp] theorem updMaps_threading (f : EventMap → EventMap) : (s.updMaps f).threading = s.threading := rfl
@[simp] theorem updMaps_recovery (f : EventMap → EventMap) : (s.updMaps f).recovery = s.recovery := rfl
@[simp] theorem updMaps_retention (f : EventMap → EventMap) : (s.updMaps f).retention = s.retention := rfl
@[simp] theorem updMaps_maps (f : EventMap → EventMap) : (s.updMaps f).maps = f s.maps := rfl
@[simp] theorem updMaps_channels (f : EventMap → EventMap) : (s.updMaps f).channels = s.channels := rfl
@[simp] theorem updMaps_levels (f : EventMap → EventMap) : (s.updMaps f).levels = s.levels := rfl
@[simp] theorem updMaps_interlock (f : EventMap → EventMap) : (s.updMaps f).interlock = s.interlock := rfl
@[simp] theorem updMaps_log (f : EventMap → EventMap) : (s.updMaps f).log = s.log := rfl
@[simp] theorem updMaps_clock (f : EventMap → EventMap) : (s.updMaps f).clock = s.clock := rfl
@[simp] theorem updMaps_raised (f : EventMap → EventMap) : (s.updMaps f).raised = s.raised := rfl
@[simp] theorem updMaps_pins (f : EventMap → EventMap) : (s.updMaps f).pins = s.pins := rfl
@[simp] theorem updMaps_power (f : EventMap → EventMap) : (s.updMaps f).power = s.power := rfl

@[simp] theorem updChannels_pending (f : Vector Channel 4 → Vector Channel 4) : (s.updChannels f).pending = s.pending := rfl
@[simp] theorem updChannels_link (f : Vector Channel 4 → Vector Channel 4) : (s.updChannels f).link = s.link := rfl
@[simp] theorem updChannels_limits (f : Vector Channel 4 → Vector Channel 4) : (s.updChannels f).limits = s.limits := rfl
@[simp] theorem updChannels_job (f : Vector Channel 4 → Vector Channel 4) : (s.updChannels f).job = s.job := rfl
@[simp] theorem updChannels_cavities (f : Vector Channel 4 → Vector Channel 4) : (s.updChannels f).cavities = s.cavities := rfl
@[simp] theorem updChannels_runOrder (f : Vector Channel 4 → Vector Channel 4) : (s.updChannels f).runOrder = s.runOrder := rfl
@[simp] theorem updChannels_sepQueue (f : Vector Channel 4 → Vector Channel 4) : (s.updChannels f).sepQueue = s.sepQueue := rfl
@[simp] theorem updChannels_store (f : Vector Channel 4 → Vector Channel 4) : (s.updChannels f).store = s.store := rfl
@[simp] theorem updChannels_engine (f : Vector Channel 4 → Vector Channel 4) : (s.updChannels f).engine = s.engine := rfl
@[simp] theorem updChannels_feed (f : Vector Channel 4 → Vector Channel 4) : (s.updChannels f).feed = s.feed := rfl
@[simp] theorem updChannels_feedOverride (f : Vector Channel 4 → Vector Channel 4) : (s.updChannels f).feedOverride = s.feedOverride := rfl
@[simp] theorem updChannels_genWatch (f : Vector Channel 4 → Vector Channel 4) : (s.updChannels f).genWatch = s.genWatch := rfl
@[simp] theorem updChannels_driveWatch (f : Vector Channel 4 → Vector Channel 4) : (s.updChannels f).driveWatch = s.driveWatch := rfl
@[simp] theorem updChannels_profiles (f : Vector Channel 4 → Vector Channel 4) : (s.updChannels f).profiles = s.profiles := rfl
@[simp] theorem updChannels_threading (f : Vector Channel 4 → Vector Channel 4) : (s.updChannels f).threading = s.threading := rfl
@[simp] theorem updChannels_recovery (f : Vector Channel 4 → Vector Channel 4) : (s.updChannels f).recovery = s.recovery := rfl
@[simp] theorem updChannels_retention (f : Vector Channel 4 → Vector Channel 4) : (s.updChannels f).retention = s.retention := rfl
@[simp] theorem updChannels_maps (f : Vector Channel 4 → Vector Channel 4) : (s.updChannels f).maps = s.maps := rfl
@[simp] theorem updChannels_channels (f : Vector Channel 4 → Vector Channel 4) : (s.updChannels f).channels = f s.channels := rfl
@[simp] theorem updChannels_levels (f : Vector Channel 4 → Vector Channel 4) : (s.updChannels f).levels = s.levels := rfl
@[simp] theorem updChannels_interlock (f : Vector Channel 4 → Vector Channel 4) : (s.updChannels f).interlock = s.interlock := rfl
@[simp] theorem updChannels_log (f : Vector Channel 4 → Vector Channel 4) : (s.updChannels f).log = s.log := rfl
@[simp] theorem updChannels_clock (f : Vector Channel 4 → Vector Channel 4) : (s.updChannels f).clock = s.clock := rfl
@[simp] theorem updChannels_raised (f : Vector Channel 4 → Vector Channel 4) : (s.updChannels f).raised = s.raised := rfl
@[simp] theorem updChannels_pins (f : Vector Channel 4 → Vector Channel 4) : (s.updChannels f).pins = s.pins := rfl
@[simp] theorem updChannels_power (f : Vector Channel 4 → Vector Channel 4) : (s.updChannels f).power = s.power := rfl

@[simp] theorem updLevels_pending (f : Vector Bool 4 → Vector Bool 4) : (s.updLevels f).pending = s.pending := rfl
@[simp] theorem updLevels_link (f : Vector Bool 4 → Vector Bool 4) : (s.updLevels f).link = s.link := rfl
@[simp] theorem updLevels_limits (f : Vector Bool 4 → Vector Bool 4) : (s.updLevels f).limits = s.limits := rfl
@[simp] theorem updLevels_job (f : Vector Bool 4 → Vector Bool 4) : (s.updLevels f).job = s.job := rfl
@[simp] theorem updLevels_cavities (f : Vector Bool 4 → Vector Bool 4) : (s.updLevels f).cavities = s.cavities := rfl
@[simp] theorem updLevels_runOrder (f : Vector Bool 4 → Vector Bool 4) : (s.updLevels f).runOrder = s.runOrder := rfl
@[simp] theorem updLevels_sepQueue (f : Vector Bool 4 → Vector Bool 4) : (s.updLevels f).sepQueue = s.sepQueue := rfl
@[simp] theorem updLevels_store (f : Vector Bool 4 → Vector Bool 4) : (s.updLevels f).store = s.store := rfl
@[simp] theorem updLevels_engine (f : Vector Bool 4 → Vector Bool 4) : (s.updLevels f).engine = s.engine := rfl
@[simp] theorem updLevels_feed (f : Vector Bool 4 → Vector Bool 4) : (s.updLevels f).feed = s.feed := rfl
@[simp] theorem updLevels_feedOverride (f : Vector Bool 4 → Vector Bool 4) : (s.updLevels f).feedOverride = s.feedOverride := rfl
@[simp] theorem updLevels_genWatch (f : Vector Bool 4 → Vector Bool 4) : (s.updLevels f).genWatch = s.genWatch := rfl
@[simp] theorem updLevels_driveWatch (f : Vector Bool 4 → Vector Bool 4) : (s.updLevels f).driveWatch = s.driveWatch := rfl
@[simp] theorem updLevels_profiles (f : Vector Bool 4 → Vector Bool 4) : (s.updLevels f).profiles = s.profiles := rfl
@[simp] theorem updLevels_threading (f : Vector Bool 4 → Vector Bool 4) : (s.updLevels f).threading = s.threading := rfl
@[simp] theorem updLevels_recovery (f : Vector Bool 4 → Vector Bool 4) : (s.updLevels f).recovery = s.recovery := rfl
@[simp] theorem updLevels_retention (f : Vector Bool 4 → Vector Bool 4) : (s.updLevels f).retention = s.retention := rfl
@[simp] theorem updLevels_maps (f : Vector Bool 4 → Vector Bool 4) : (s.updLevels f).maps = s.maps := rfl
@[simp] theorem updLevels_channels (f : Vector Bool 4 → Vector Bool 4) : (s.updLevels f).channels = s.channels := rfl
@[simp] theorem updLevels_levels (f : Vector Bool 4 → Vector Bool 4) : (s.updLevels f).levels = f s.levels := rfl
@[simp] theorem updLevels_interlock (f : Vector Bool 4 → Vector Bool 4) : (s.updLevels f).interlock = s.interlock := rfl
@[simp] theorem updLevels_log (f : Vector Bool 4 → Vector Bool 4) : (s.updLevels f).log = s.log := rfl
@[simp] theorem updLevels_clock (f : Vector Bool 4 → Vector Bool 4) : (s.updLevels f).clock = s.clock := rfl
@[simp] theorem updLevels_raised (f : Vector Bool 4 → Vector Bool 4) : (s.updLevels f).raised = s.raised := rfl
@[simp] theorem updLevels_pins (f : Vector Bool 4 → Vector Bool 4) : (s.updLevels f).pins = s.pins := rfl
@[simp] theorem updLevels_power (f : Vector Bool 4 → Vector Bool 4) : (s.updLevels f).power = s.power := rfl

@[simp] theorem updInterlock_pending (f : Interlock → Interlock) : (s.updInterlock f).pending = s.pending := rfl
@[simp] theorem updInterlock_link (f : Interlock → Interlock) : (s.updInterlock f).link = s.link := rfl
@[simp] theorem updInterlock_limits (f : Interlock → Interlock) : (s.updInterlock f).limits = s.limits := rfl
@[simp] theorem updInterlock_job (f : Interlock → Interlock) : (s.updInterlock f).job = s.job := rfl
@[simp] theorem updInterlock_cavities (f : Interlock → Interlock) : (s.updInterlock f).cavities = s.cavities := rfl
@[simp] theorem updInterlock_runOrder (f : Interlock → Interlock) : (s.updInterlock f).runOrder = s.runOrder := rfl
@[simp] theorem updInterlock_sepQueue (f : Interlock → Interlock) : (s.updInterlock f).sepQueue = s.sepQueue := rfl
@[simp] theorem updInterlock_store (f : Interlock → Interlock) : (s.updInterlock f).store = s.store := rfl
@[simp] theorem updInterlock_engine (f : Interlock → Interlock) : (s.updInterlock f).engine = s.engine := rfl
@[simp] theorem updInterlock_feed (f : Interlock → Interlock) : (s.updInterlock f).feed = s.feed := rfl
@[simp] theorem updInterlock_feedOverride (f : Interlock → Interlock) : (s.updInterlock f).feedOverride = s.feedOverride := rfl
@[simp] theorem updInterlock_genWatch (f : Interlock → Interlock) : (s.updInterlock f).genWatch = s.genWatch := rfl
@[simp] theorem updInterlock_driveWatch (f : Interlock → Interlock) : (s.updInterlock f).driveWatch = s.driveWatch := rfl
@[simp] theorem updInterlock_profiles (f : Interlock → Interlock) : (s.updInterlock f).profiles = s.profiles := rfl
@[simp] theorem updInterlock_threading (f : Interlock → Interlock) : (s.updInterlock f).threading = s.threading := rfl
@[simp] theorem updInterlock_recovery (f : Interlock → Interlock) : (s.updInterlock f).recovery = s.recovery := rfl
@[simp] theorem updInterlock_retention (f : Interlock → Interlock) : (s.updInterlock f).retention = s.retention := rfl
@[simp] theorem updInterlock_maps (f : Interlock → Interlock) : (s.updInterlock f).maps = s.maps := rfl
@[simp] theorem updInterlock_channels (f : Interlock → Interlock) : (s.updInterlock f).channels = s.channels := rfl
@[simp] theorem updInterlock_levels (f : Interlock → Interlock) : (s.updInterlock f).levels = s.levels := rfl
@[simp] theorem updInterlock_interlock (f : Interlock → Interlock) : (s.updInterlock f).interlock = f s.interlock := rfl
@[simp] theorem updInterlock_log (f : Interlock → Interlock) : (s.updInterlock f).log = s.log := rfl
@[simp] theorem updInterlock_clock (f : Interlock → Interlock) : (s.updInterlock f).clock = s.clock := rfl
@[simp] theorem updInterlock_raised (f : Interlock → Interlock) : (s.updInterlock f).raised = s.raised := rfl
@[simp] theorem updInterlock_pins (f : Interlock → Interlock) : (s.updInterlock f).pins = s.pins := rfl
@[simp] theorem updInterlock_power (f : Interlock → Interlock) : (s.updInterlock f).power = s.power := rfl

@[simp] theorem updLog_pending (f : List LogRecord → List LogRecord) : (s.updLog f).pending = s.pending := rfl
@[simp] theorem updLog_link (f : List LogRecord → List LogRecord) : (s.updLog f).link = s.link := rfl
@[simp] theorem updLog_limits (f : List LogRecord → List LogRecord) : (s.updLog f).limits = s.limits := rfl
@[simp] theorem updLog_job (f : List LogRecord → List LogRecord) : (s.updLog f).job = s.job := rfl
@[simp] theorem updLog_cavities (f : List LogRecord → List LogRecord) : (s.updLog f).cavities = s.cavities := rfl
@[simp] theorem updLog_runOrder (f : List LogRecord → List LogRecord) : (s.updLog f).runOrder = s.runOrder := rfl
@[simp] theorem updLog_sepQueue (f : List LogRecord → List LogRecord) : (s.updLog f).sepQueue = s.sepQueue := rfl
@[simp] theorem updLog_store (f : List LogRecord → List LogRecord) : (s.updLog f).store = s.store := rfl
@[simp] theorem updLog_engine (f : List LogRecord → List LogRecord) : (s.updLog f).engine = s.engine := rfl
@[simp] theorem updLog_feed (f : List LogRecord → List LogRecord) : (s.updLog f).feed = s.feed := rfl
@[simp] theorem updLog_feedOverride (f : List LogRecord → List LogRecord) : (s.updLog f).feedOverride = s.feedOverride := rfl
@[simp] theorem updLog_genWatch (f : List LogRecord → List LogRecord) : (s.updLog f).genWatch = s.genWatch := rfl
@[simp] theorem updLog_driveWatch (f : List LogRecord → List LogRecord) : (s.updLog f).driveWatch = s.driveWatch := rfl
@[simp] theorem updLog_profiles (f : List LogRecord → List LogRecord) : (s.updLog f).profiles = s.profiles := rfl
@[simp] theorem updLog_threading (f : List LogRecord → List LogRecord) : (s.updLog f).threading = s.threading := rfl
@[simp] theorem updLog_recovery (f : List LogRecord → List LogRecord) : (s.updLog f).recovery = s.recovery := rfl
@[simp] theorem updLog_retention (f : List LogRecord → List LogRecord) : (s.updLog f).retention = s.retention := rfl
@[simp] theorem updLog_maps (f : List LogRecord → List LogRecord) : (s.updLog f).maps = s.maps := rfl
@[simp] theorem updLog_channels (f : List LogRecord → List LogRecord) : (s.updLog f).channels = s.channels := rfl
@[simp] theorem updLog_levels (f : List LogRecord → List LogRecord) : (s.updLog f).levels = s.levels := rfl
@[simp] theorem updLog_interlock (f : List LogRecord → List LogRecord) : (s.updLog f).interlock = s.interlock := rfl
@[simp] theorem updLog_log (f : List LogRecord → List LogRecord) : (s.updLog f).log = f s.log := rfl
@[simp] theorem updLog_clock (f : List LogRecord → List LogRecord) : (s.updLog f).clock = s.clock := rfl
@[simp] theorem updLog_raised (f : List LogRecord → List LogRecord) : (s.updLog f).raised = s.raised := rfl
@[simp] theorem updLog_pins (f : List LogRecord → List LogRecord) : (s.updLog f).pins = s.pins := rfl
@[simp] theorem updLog_power (f : List LogRecord → List LogRecord) : (s.updLog f).power = s.power := rfl

@[simp] theorem updClock_pending (f : BitVec 32 → BitVec 32) : (s.updClock f).pending = s.pending := rfl
@[simp] theorem updClock_link (f : BitVec 32 → BitVec 32) : (s.updClock f).link = s.link := rfl
@[simp] theorem updClock_limits (f : BitVec 32 → BitVec 32) : (s.updClock f).limits = s.limits := rfl
@[simp] theorem updClock_job (f : BitVec 32 → BitVec 32) : (s.updClock f).job = s.job := rfl
@[simp] theorem updClock_cavities (f : BitVec 32 → BitVec 32) : (s.updClock f).cavities = s.cavities := rfl
@[simp] theorem updClock_runOrder (f : BitVec 32 → BitVec 32) : (s.updClock f).runOrder = s.runOrder := rfl
@[simp] theorem updClock_sepQueue (f : BitVec 32 → BitVec 32) : (s.updClock f).sepQueue = s.sepQueue := rfl
@[simp] theorem updClock_store (f : BitVec 32 → BitVec 32) : (s.updClock f).store = s.store := rfl
@[simp] theorem updClock_engine (f : BitVec 32 → BitVec 32) : (s.updClock f).engine = s.engine := rfl
@[simp] theorem updClock_feed (f : BitVec 32 → BitVec 32) : (s.updClock f).feed = s.feed := rfl
@[simp] theorem updClock_feedOverride (f : BitVec 32 → BitVec 32) : (s.updClock f).feedOverride = s.feedOverride := rfl
@[simp] theorem updClock_genWatch (f : BitVec 32 → BitVec 32) : (s.updClock f).genWatch = s.genWatch := rfl
@[simp] theorem updClock_driveWatch (f : BitVec 32 → BitVec 32) : (s.updClock f).driveWatch = s.driveWatch := rfl
@[simp] theorem updClock_profiles (f : BitVec 32 → BitVec 32) : (s.updClock f).profiles = s.profiles := rfl
@[simp] theorem updClock_threading (f : BitVec 32 → BitVec 32) : (s.updClock f).threading = s.threading := rfl
@[simp] theorem updClock_recovery (f : BitVec 32 → BitVec 32) : (s.updClock f).recovery = s.recovery := rfl
@[simp] theorem updClock_retention (f : BitVec 32 → BitVec 32) : (s.updClock f).retention = s.retention := rfl
@[simp] theorem updClock_maps (f : BitVec 32 → BitVec 32) : (s.updClock f).maps = s.maps := rfl
@[simp] theorem updClock_channels (f : BitVec 32 → BitVec 32) : (s.updClock f).channels = s.channels := rfl
@[simp] theorem updClock_levels (f : BitVec 32 → BitVec 32) : (s.updClock f).levels = s.levels := rfl
@[simp] theorem updClock_interlock (f : BitVec 32 → BitVec 32) : (s.updClock f).interlock = s.interlock := rfl
@[simp] theorem updClock_log (f : BitVec 32 → BitVec 32) : (s.updClock f).log = s.log := rfl
@[simp] theorem updClock_clock (f : BitVec 32 → BitVec 32) : (s.updClock f).clock = f s.clock := rfl
@[simp] theorem updClock_raised (f : BitVec 32 → BitVec 32) : (s.updClock f).raised = s.raised := rfl
@[simp] theorem updClock_pins (f : BitVec 32 → BitVec 32) : (s.updClock f).pins = s.pins := rfl
@[simp] theorem updClock_power (f : BitVec 32 → BitVec 32) : (s.updClock f).power = s.power := rfl

@[simp] theorem updRaised_pending (f : List Raised → List Raised) : (s.updRaised f).pending = s.pending := rfl
@[simp] theorem updRaised_link (f : List Raised → List Raised) : (s.updRaised f).link = s.link := rfl
@[simp] theorem updRaised_limits (f : List Raised → List Raised) : (s.updRaised f).limits = s.limits := rfl
@[simp] theorem updRaised_job (f : List Raised → List Raised) : (s.updRaised f).job = s.job := rfl
@[simp] theorem updRaised_cavities (f : List Raised → List Raised) : (s.updRaised f).cavities = s.cavities := rfl
@[simp] theorem updRaised_runOrder (f : List Raised → List Raised) : (s.updRaised f).runOrder = s.runOrder := rfl
@[simp] theorem updRaised_sepQueue (f : List Raised → List Raised) : (s.updRaised f).sepQueue = s.sepQueue := rfl
@[simp] theorem updRaised_store (f : List Raised → List Raised) : (s.updRaised f).store = s.store := rfl
@[simp] theorem updRaised_engine (f : List Raised → List Raised) : (s.updRaised f).engine = s.engine := rfl
@[simp] theorem updRaised_feed (f : List Raised → List Raised) : (s.updRaised f).feed = s.feed := rfl
@[simp] theorem updRaised_feedOverride (f : List Raised → List Raised) : (s.updRaised f).feedOverride = s.feedOverride := rfl
@[simp] theorem updRaised_genWatch (f : List Raised → List Raised) : (s.updRaised f).genWatch = s.genWatch := rfl
@[simp] theorem updRaised_driveWatch (f : List Raised → List Raised) : (s.updRaised f).driveWatch = s.driveWatch := rfl
@[simp] theorem updRaised_profiles (f : List Raised → List Raised) : (s.updRaised f).profiles = s.profiles := rfl
@[simp] theorem updRaised_threading (f : List Raised → List Raised) : (s.updRaised f).threading = s.threading := rfl
@[simp] theorem updRaised_recovery (f : List Raised → List Raised) : (s.updRaised f).recovery = s.recovery := rfl
@[simp] theorem updRaised_retention (f : List Raised → List Raised) : (s.updRaised f).retention = s.retention := rfl
@[simp] theorem updRaised_maps (f : List Raised → List Raised) : (s.updRaised f).maps = s.maps := rfl
@[simp] theorem updRaised_channels (f : List Raised → List Raised) : (s.updRaised f).channels = s.channels := rfl
@[simp] theorem updRaised_levels (f : List Raised → List Raised) : (s.updRaised f).levels = s.levels := rfl
@[simp] theorem updRaised_interlock (f : List Raised → List Raised) : (s.updRaised f).interlock = s.interlock := rfl
@[simp] theorem updRaised_log (f : List Raised → List Raised) : (s.updRaised f).log = s.log := rfl
@[simp] theorem updRaised_clock (f : List Raised → List Raised) : (s.updRaised f).clock = s.clock := rfl
@[simp] theorem updRaised_raised (f : List Raised → List Raised) : (s.updRaised f).raised = f s.raised := rfl
@[simp] theorem updRaised_pins (f : List Raised → List Raised) : (s.updRaised f).pins = s.pins := rfl
@[simp] theorem updRaised_power (f : List Raised → List Raised) : (s.updRaised f).power = s.power := rfl

@[simp] theorem updPins_pending (f : Pins → Pins) : (s.updPins f).pending = s.pending := rfl
@[simp] theorem updPins_link (f : Pins → Pins) : (s.updPins f).link = s.link := rfl
@[simp] theorem updPins_limits (f : Pins → Pins) : (s.updPins f).limits = s.limits := rfl
@[simp] theorem updPins_job (f : Pins → Pins) : (s.updPins f).job = s.job := rfl
@[simp] theorem updPins_cavities (f : Pins → Pins) : (s.updPins f).cavities = s.cavities := rfl
@[simp] theorem updPins_runOrder (f : Pins → Pins) : (s.updPins f).runOrder = s.runOrder := rfl
@[simp] theorem updPins_sepQueue (f : Pins → Pins) : (s.updPins f).sepQueue = s.sepQueue := rfl
@[simp] theorem updPins_store (f : Pins → Pins) : (s.updPins f).store = s.store := rfl
@[simp] theorem updPins_engine (f : Pins → Pins) : (s.updPins f).engine = s.engine := rfl
@[simp] theorem updPins_feed (f : Pins → Pins) : (s.updPins f).feed = s.feed := rfl
@[simp] theorem updPins_feedOverride (f : Pins → Pins) : (s.updPins f).feedOverride = s.feedOverride := rfl
@[simp] theorem updPins_genWatch (f : Pins → Pins) : (s.updPins f).genWatch = s.genWatch := rfl
@[simp] theorem updPins_driveWatch (f : Pins → Pins) : (s.updPins f).driveWatch = s.driveWatch := rfl
@[simp] theorem updPins_profiles (f : Pins → Pins) : (s.updPins f).profiles = s.profiles := rfl
@[simp] theorem updPins_threading (f : Pins → Pins) : (s.updPins f).threading = s.threading := rfl
@[simp] theorem updPins_recovery (f : Pins → Pins) : (s.updPins f).recovery = s.recovery := rfl
@[simp] theorem updPins_retention (f : Pins → Pins) : (s.updPins f).retention = s.retention := rfl
@[simp] theorem updPins_maps (f : Pins → Pins) : (s.updPins f).maps = s.maps := rfl
@[simp] theorem updPins_channels (f : Pins → Pins) : (s.updPins f).channels = s.channels := rfl
@[simp] theorem updPins_levels (f : Pins → Pins) : (s.updPins f).levels = s.levels := rfl
@[simp] theorem updPins_interlock (f : Pins → Pins) : (s.updPins f).interlock = s.interlock := rfl
@[simp] theorem updPins_log (f : Pins → Pins) : (s.updPins f).log = s.log := rfl
@[simp] theorem updPins_clock (f : Pins → Pins) : (s.updPins f).clock = s.clock := rfl
@[simp] theorem updPins_raised (f : Pins → Pins) : (s.updPins f).raised = s.raised := rfl
@[simp] theorem updPins_pins (f : Pins → Pins) : (s.updPins f).pins = f s.pins := rfl
@[simp] theorem updPins_power (f : Pins → Pins) : (s.updPins f).power = s.power := rfl

@[simp] theorem updPower_pending (f : Power → Power) : (s.updPower f).pending = s.pending := rfl
@[simp] theorem updPower_link (f : Power → Power) : (s.updPower f).link = s.link := rfl
@[simp] theorem updPower_limits (f : Power → Power) : (s.updPower f).limits = s.limits := rfl
@[simp] theorem updPower_job (f : Power → Power) : (s.updPower f).job = s.job := rfl
@[simp] theorem updPower_cavities (f : Power → Power) : (s.updPower f).cavities = s.cavities := rfl
@[simp] theorem updPower_runOrder (f : Power → Power) : (s.updPower f).runOrder = s.runOrder := rfl
@[simp] theorem updPower_sepQueue (f : Power → Power) : (s.updPower f).sepQueue = s.sepQueue := rfl
@[simp] theorem updPower_store (f : Power → Power) : (s.updPower f).store = s.store := rfl
@[simp] theorem updPower_engine (f : Power → Power) : (s.updPower f).engine = s.engine := rfl
@[simp] theorem updPower_feed (f : Power → Power) : (s.updPower f).feed = s.feed := rfl
@[simp] theorem updPower_feedOverride (f : Power → Power) : (s.updPower f).feedOverride = s.feedOverride := rfl
@[simp] theorem updPower_genWatch (f : Power → Power) : (s.updPower f).genWatch = s.genWatch := rfl
@[simp] theorem updPower_driveWatch (f : Power → Power) : (s.updPower f).driveWatch = s.driveWatch := rfl
@[simp] theorem updPower_profiles (f : Power → Power) : (s.updPower f).profiles = s.profiles := rfl
@[simp] theorem updPower_threading (f : Power → Power) : (s.updPower f).threading = s.threading := rfl
@[simp] theorem updPower_recovery (f : Power → Power) : (s.updPower f).recovery = s.recovery := rfl
@[simp] theorem updPower_retention (f : Power → Power) : (s.updPower f).retention = s.retention := rfl
@[simp] theorem updPower_maps (f : Power → Power) : (s.updPower f).maps = s.maps := rfl
@[simp] theorem updPower_channels (f : Power → Power) : (s.updPower f).channels = s.channels := rfl
@[simp] theorem updPower_levels (f : Power → Power) : (s.updPower f).levels = s.levels := rfl
@[simp] theorem updPower_interlock (f : Power → Power) : (s.updPower f).interlock = s.interlock := rfl
@[simp] theorem updPower_log (f : Power → Power) : (s.updPower f).log = s.log := rfl
@[simp] theorem updPower_clock (f : Power → Power) : (s.updPower f).clock = s.clock := rfl
@[simp] theorem updPower_raised (f : Power → Power) : (s.updPower f).raised = s.raised := rfl
@[simp] theorem updPower_pins (f : Power → Power) : (s.updPower f).pins = s.pins := rfl
@[simp] theorem updPower_power (f : Power → Power) : (s.updPower f).power = f s.power := rfl

end Sys2Proof.Machine.State
end

