-- ==== Sys2Proof/Laws/Ops.lean ====
section
/-! SUPPORT. What the shared operations of every command do: the close of a command, the decision of a request, the guard of
an event, and tables changed entry by entry. -/

namespace Sys2Proof.Machine

/-! ### The close of a command -/

theorem State.drain_of_raised_nil {s : State} (h : s.raised = []) : s.drain = s := by
  simp [State.drain, drainBound, State.drainWith, h]

theorem State.sequence_of_not_canSelect {s : State} (h : s.canSelect = false) (n : Nat) : State.sequence n s = s := by
  cases n <;> simp [State.sequence, h]

/-- With nothing to hand and nothing to select, the close brings GEN_EN and the transmitter up to date. -/
theorem State.finish_of_quiet {s : State} (h : s.quiet) (b : Bool) : s.finish b = (s.refreshGen b).startTransmit := by
  simp [State.finish, State.drain_of_raised_nil h.1, State.sequence_of_not_canSelect h.2]

theorem State.finish_eq_closed {s : State} (h : s.quiet) : s.finish false = s.closed := State.finish_of_quiet h false

/-- The close of a window report, after its set-point. -/
theorem State.finish_eq_reported {s : State} (h : s.quiet) : s.sendSetPoint.finish true = s.reported :=
  State.finish_of_quiet (s := s.sendSetPoint) h true

/-- One waiting entry is handed, and what it raises follows it. -/
theorem State.drainWith_cons {s : State} {r : Raised} {rest : List Raised} (h : s.raised = r :: rest) (n : Nat) :
    State.drainWith (n + 1) s = State.drainWith n ((s.updRaised fun _ => rest).hand r) := by
  simp [State.drainWith, h]

/-! ### Requests -/

theorem State.decides_operating {s : State} {kind tag : Byte} {payload : List Byte} (h : s.decides kind tag payload = true) :
    s.operating = true := by
  simp only [State.decides, Bool.and_eq_true] at h; exact h.1.1.1

theorem State.popRequest_quiet {s : State} (h : s.quiet) : s.popRequest.quiet := h

/-- A request of a permitted length whose owner's answer leaves nothing to hand or select. -/
theorem State.request_answered {s : State} {kind tag : Byte} {payload : List Byte} {permitted : Bool} {owner : State → Answer}
    {a : Answer} (hd : s.decides kind tag payload = true) (hp : permitted = true) (ho : owner s.popRequest = a)
    (hq : a.state.quiet) :
    s.request kind tag payload permitted owner = .next ((a.state.pushReply kind tag a.result a.data).closed) := by
  have h : (a.reply kind tag).quiet := hq
  subst hp
  simp only [State.request, hd, if_true, State.decided, ho]
  rw [State.finish_of_quiet h]; rfl

/-- A request of a permitted length, whatever its owner's answer leaves. -/
theorem State.request_finished {s : State} {kind tag : Byte} {payload : List Byte} {permitted : Bool} {owner : State → Answer}
    {a : Answer} (hd : s.decides kind tag payload = true) (hp : permitted = true) (ho : owner s.popRequest = a) :
    s.request kind tag payload permitted owner = .next ((a.state.pushReply kind tag a.result a.data).finish false) := by
  subst hp
  simp only [State.request, hd, if_true, State.decided, ho]
  rfl

/-- A request that its owner refuses, leaving its state as it was. -/
theorem State.request_refused {s : State} {kind tag : Byte} {payload : List Byte} {permitted : Bool} {owner : State → Answer}
    {r : Result} (hd : s.decides kind tag payload = true) (hp : permitted = true)
    (ho : owner s.popRequest = s.popRequest.refuse r) (hq : s.quiet) :
    s.request kind tag payload permitted owner = .next (s.replied kind tag r []) :=
  State.request_answered hd hp ho hq

/-- A request of a length that is not permitted. -/
theorem State.request_of_badLength {s : State} {kind tag : Byte} {payload : List Byte} {permitted : Bool}
    (owner : State → Answer) (hd : s.decides kind tag payload = true) (hp : permitted = false) (hq : s.quiet) :
    s.request kind tag payload permitted owner = .next (s.replied kind tag .badLength []) := by
  have h : ((s.popRequest.refuse .badLength).reply kind tag).quiet := hq
  subst hp
  simp only [State.request, hd, if_true, State.decided, Bool.false_eq_true, if_false]
  rw [State.finish_of_quiet h]; rfl

/-- A request that the port does not decide now. -/
theorem State.request_of_not_decides {s : State} {kind tag : Byte} {payload : List Byte}
    (h : s.decides kind tag payload = false) (permitted : Bool) (owner : State → Answer) :
    s.request kind tag payload permitted owner = .next s := by
  simp [State.request, h]

/-! ### Events -/

theorem State.whenOperating_of {s : State} (h : s.operating = true) (f : State → State) :
    s.whenOperating f = .next (f s) := by simp [State.whenOperating, h]

theorem State.whenOperating_of_not {s : State} (h : s.operating = false) (f : State → State) :
    s.whenOperating f = .next s := by simp [State.whenOperating, h]

/-! ### A raised code -/

/-- Raising a code leaves its record, its notice and one entry to hand. -/
theorem State.raise_eq_noted {s : State} (h : s.raised = []) (code : Code) (detail : Nat) :
    s.raise code detail =
      (s.noted code detail).updRaised fun _ => [{ code := code, actions := s.maps.entry s.maps.active code }] := by
  simp only [State.raise, State.raiseFor, State.noted, State.eventContent, State.logEvent, State.offer]
  cases h1 : hasLog (s.maps.entry s.maps.active code) <;> cases h2 : hasNotify (s.maps.entry s.maps.active code) <;>
    simp [State.updLog, State.updLink, State.updRaised, h]

/-- The output actions change channels and levels only. -/
theorem State.outputActions_eq (s : State) (a : ActionSet) (n : Fin 4) :
    s.outputActions a n =
      { s with channels := (s.outputActions a n).channels, levels := (s.outputActions a n).levels } := by
  simp only [State.outputActions]
  cases hasPulse a n <;> cases hasSet a n <;> cases hasClr a n <;> rfl

theorem State.allOutputActions_eq (s : State) (a : ActionSet) :
    s.allOutputActions a =
      { s with channels := (s.allOutputActions a).channels, levels := (s.allOutputActions a).levels } := by
  simp only [State.allOutputActions]
  rw [State.outputActions_eq _ a 3, State.outputActions_eq _ a 2, State.outputActions_eq _ a 1, State.outputActions_eq s a 0]

/-- An entry whose job and recovery actions have no effect leaves its output actions. -/
theorem State.hand_of_inert {s : State} {code : Code} (h : s.inert code = true) :
    s.hand { code := code, actions := s.maps.entry s.maps.active code } =
      s.allOutputActions (s.maps.entry s.maps.active code) := by
  simp only [State.inert, Bool.and_eq_true, Bool.or_eq_true, Bool.not_eq_true'] at h
  obtain ⟨h1, h2⟩ := h
  have hb : (if hasBreak (s.maps.entry s.maps.active code) then s.takeBreak else s) = s := by
    rcases h1 with h1 | h1
    · simp [h1]
    · have : s.takeBreak = s := by simp [State.takeBreak, h1]
      simp [this]
  simp only [State.hand, hb]
  rcases h2 with h2 | h2
  · simp only [Bool.or_eq_false_iff] at h2
    simp [h2.1, h2.2]
  · have hh : s.haltJob .halted = s := by
      cases hj : s.job.state <;> simp [hj] at h2 <;> simp [State.haltJob, hj]
    have hp : s.pauseAction code = s := by
      cases hj : s.job.state <;> simp [hj] at h2 <;> simp [State.pauseAction, State.addReason, hj]
    simp [hh, hp]

/-- A raised code whose entry is inert, handed: its record, its notice, its outputs. -/
theorem State.raise_drain_of_inert {s : State} (hr : s.raised = []) {code : Code} (h : s.inert code = true) (detail : Nat) :
    (s.raise code detail).drain = s.carried code detail := by
  have hi : (s.noted code detail).inert code = true := h
  rw [State.raise_eq_noted hr, State.drain, drainBound,
    State.drainWith_cons (r := { code := code, actions := s.maps.entry s.maps.active code }) (rest := []) rfl]
  have e : (State.updRaised ((s.noted code detail).updRaised fun _ =>
      [{ code := code, actions := s.maps.entry s.maps.active code }]) fun _ => []) = s.noted code detail := by
    have : (s.noted code detail).raised = [] := hr
    simp only [State.updRaised]; rw [← this]
  rw [e, show s.maps.entry s.maps.active code = (s.noted code detail).maps.entry (s.noted code detail).maps.active code from rfl,
    State.hand_of_inert hi]
  have hn : ((s.noted code detail).allOutputActions
      ((s.noted code detail).maps.entry (s.noted code detail).maps.active code)).raised = [] := by
    rw [State.allOutputActions_eq]; exact hr
  rw [State.drainWith]
  simp only [hn]
  rfl

/-- The close of a command that raised one inert code. -/
theorem State.raise_finish_of_inert {s : State} (hq : s.quiet) {code : Code} (h : s.inert code = true) (detail : Nat) :
    (s.raise code detail).finish false = (s.carried code detail).closed := by
  have hc : (s.carried code detail).canSelect = false := by
    rw [State.carried, State.allOutputActions_eq]; exact hq.2
  rw [State.finish, State.raise_drain_of_inert hq.1 h, State.sequence_of_not_canSelect hc]
  rfl

/-! ### Tables -/

theorem mapTable_eq_map {α : Type} {n : Nat} (f : α → α) (v : Vector α n) : mapTable f v = v.map f := by
  ext i hi
  simp [mapTable]

@[simp] theorem mapTable_getElem {α : Type} {n : Nat} (f : α → α) (v : Vector α n) (i : Nat) (h : i < n) :
    (mapTable f v)[i] = f v[i] := by
  simp [mapTable]

end Sys2Proof.Machine
end

