-- ==== Sys2Proof/Laws/Moves.lean ====
section
/-! SUPPORT. What the shared moves of the job table do: a cavity faulted (R27), a clamp request dropped, the job halted (R23);
the pause that a raised code brings (R21, R158); the engine's resume (R22, R66); a selection (R34, R35); and what the owned chains hold (R38, R39). -/

namespace Sys2Proof.Machine

/-- A cavity without its slots holds none. -/
@[simp] theorem slots_emptied (c : Cavity) : c.emptied.slots = 0 := by
  simp [Cavity.slots, Cavity.emptied, mapTable]
  induction c.passes.toList <;> simp_all [PassRec.emptied]

/-- All that FAULTED does to a state in which the cavity has a record (R27). -/
theorem faultCavity_eq {s : State} {i : CavityId} {c : Cavity} (h : s.cavity i = some c) (r : FaultReason) :
    s.faultCavity i r =
      { s with
        cavities :=
          s.cavities.set i.val (some { c.emptied with state := .faulted, fault := c.fault <|> some r, attemptsUsed := 0 })
        job := { s.job with active := if s.job.active = some i then none else s.job.active }
        sepQueue := s.sepQueue.filter fun j => decide (j ≠ i)
        retention :=
          if s.retention.clamp = .requested i then { clamp := .free, clampReq := false, timer := none } else s.retention
        store :=
          { s.store with
            free := s.store.free + c.slots + ownedSlots s.store.reroute i + ownedSlots s.store.separation i
            reroute := withoutOwner s.store.reroute i, separation := withoutOwner s.store.separation i }
        link := { s.link with notices := s.withoutReportsOf i s.link.notices } } := by
  have hc : s.cavities[i.val] = some c := h
  simp only [State.faultCavity, State.releaseCavity, State.freeCavity, State.cavity, State.setCavState, State.updCavity,
    State.updCavities, State.updJob]
  simp [Cavity.slots, Cavity.emptied, State.updStore, State.withdrawRequest, State.updRetention, State.updSepQueue,
    CavState.isActive, hc, Retention.freed, State.updLink, State.withoutReportsOf]
  split <;> rfl

/-- FAULTED for an id without a record touches the job, the queue and the clamp alone. -/
theorem faultCavity_none {s : State} {i : CavityId} (h : s.cavity i = none) (r : FaultReason) :
    s.faultCavity i r =
      { s with
        job := { s.job with active := if s.job.active = some i then none else s.job.active }
        sepQueue := s.sepQueue.filter fun j => decide (j ≠ i)
        retention :=
          if s.retention.clamp = .requested i then { clamp := .free, clampReq := false, timer := none } else s.retention } := by
  have hc : s.cavities[i.val] = none := h
  have e : s.cavities.set i.val none = s.cavities := by rw [← hc]; exact Vector.set_getElem_self _
  simp only [State.faultCavity, State.releaseCavity, State.freeCavity, State.cavity, State.setCavState, State.updCavity,
    State.updCavities, State.updJob]
  simp [State.withdrawRequest, State.updRetention, State.updSepQueue, CavState.isActive, hc, Retention.freed, e]
  split <;> rfl

/-- The clamp after a REQUESTED one is dropped (R23). -/
theorem dropRequest_eq (s : State) :
    s.dropRequest =
      { s with
        retention := match s.retention.clamp with
          | .requested _ => { clamp := .free, clampReq := false, timer := none }
          | _ => s.retention } := by
  rw [State.dropRequest]
  cases hc : s.retention.clamp <;> simp only <;> rfl

/-- The state that a halt leaves once the active cavity has been faulted (R23). -/
def State.haltLeft (s : State) : State :=
  { s with
    job := { s.job with state := .halted, reasons := ⟨false, false, false, false⟩ }
    link := { s.link with heartbeat := none }
    engine := { s.engine with state := .idle, chain := none, p := 0, h := 0, floor := 0, move := none, resume := none }
    threading := s.threading.stopped
    recovery := .idle
    retention := match s.retention.clamp with
      | .requested _ => { clamp := .free, clampReq := false, timer := none }
      | _ => s.retention }

/-- A halt from RUNNING or PAUSED (R23). -/
theorem haltJob_eq {s : State} (h : s.job.state = .running ∨ s.job.state = .paused) (r : FaultReason) :
    s.haltJob r = (s.faultByHalt r).haltLeft := by
  have : s.haltJob r =
      ((((((s.faultByHalt r).engineStop).threadingStop).endRecovery).dropRequest).updJob fun j =>
        { j with state := .halted, reasons := Reasons.none }).stopHeartbeat := by
    rcases h with h | h <;> simp [State.haltJob, h]
  rw [this]
  generalize s.faultByHalt r = t
  rw [dropRequest_eq]
  rfl

/-- A halt in any other job state has no effect (R23). -/
theorem haltJob_of_not {s : State} (h1 : s.job.state ≠ .running) (h2 : s.job.state ≠ .paused) (r : FaultReason) :
    s.haltJob r = s := by
  cases h : s.job.state <;> simp_all [State.haltJob]

/-- The notice queue after the active cavity has been faulted: its owned chains' reports are gone (R59, R61). -/
def State.noticesLeft (s : State) (q : List Notice) : List Notice :=
  match s.job.active with
  | some i => if (s.cavity i).isSome then s.withoutReportsOf i q else q
  | none => q

theorem faultActive_link (s : State) (r : FaultReason) :
    (s.faultActive r).link = { s.link with notices := s.noticesLeft s.link.notices } := by
  simp only [State.faultActive, State.noticesLeft]
  cases s.job.active with
  | none => rfl
  | some i =>
    cases hc : s.cavity i with
    | none => simp [faultCavity_none hc, hc]
    | some c => simp [faultCavity_eq hc, hc]

/-- What stays of a notice queue is what a test on its notices alone lets through. -/
theorem noticesLeft_filter (s : State) : ∃ f : Notice → Bool, ∀ q, s.noticesLeft q = q.filter f := by
  have drop (r : ChainRef) (o : Option OwnedChain) : ∃ f : Notice → Bool, ∀ q, dropReports r o q = q.filter f := by
    cases o with
    | none => exact ⟨fun _ => true, fun q => (List.filter_eq_self.2 fun _ _ => rfl).symm⟩
    | some c => exact ⟨fun n => !n.reports r c, fun _ => rfl⟩
  have all : ∃ f : Notice → Bool, ∀ q : List Notice, q = q.filter f := ⟨fun _ => true, fun q => (List.filter_eq_self.2 fun _ _ => rfl).symm⟩
  simp only [State.noticesLeft]
  cases s.job.active with
  | none => exact all
  | some i =>
    by_cases hc : (s.cavity i).isSome = true
    · obtain ⟨f, hf⟩ := drop .reroute (ownedBy s.store.reroute i)
      obtain ⟨g, hg⟩ := drop .separation (ownedBy s.store.separation i)
      exact ⟨fun n => f n && g n, fun q => by simp [hc, State.withoutReportsOf, hf, hg, List.filter_filter, Bool.and_comm]⟩
    · simpa [hc] using all

/-- JOB_ABORT and HALT fault the active cavity as R27 says; what stays of the notice queue is the free value's (R16, R59, R61). -/
theorem faultByHalt_eq (s : State) (r : FaultReason) :
    s.faultByHalt r =
      { s.faultActive r with
        link :=
          { s.link with
            notices := if Config.haltKeepsNotices = true then s.link.notices else s.noticesLeft s.link.notices } } := by
  simp only [State.faultByHalt, State.updLink, faultActive_link]
  obtain ⟨f, hf⟩ := noticesLeft_filter s
  have h : (s.link.notices.filter fun n => decide (n ∈ s.noticesLeft s.link.notices)) = s.noticesLeft s.link.notices := by
    rw [hf]
    exact List.filter_congr fun n hn => by simp [List.mem_filter, hn]
  cases Config.haltKeepsNotices <;> simp [h]

theorem faultActive_raised (s : State) (r : FaultReason) : (s.faultActive r).raised = s.raised := by
  simp only [State.faultActive]
  split
  · rename_i i hi
    cases hc : s.cavity i with
    | none => rw [faultCavity_none hc]
    | some c => rw [faultCavity_eq hc]
  · rfl

/-- Faulting the active cavity looks at nothing of the link but its notice queue. -/
theorem faultActive_withLink (s : State) (l : Link) (r : FaultReason) :
    State.faultActive { s with link := l } r =
      { s.faultActive r with link := { l with notices := s.noticesLeft l.notices } } := by
  simp only [State.faultActive, State.noticesLeft]
  cases s.job.active with
  | none => rfl
  | some i =>
    have e : State.cavity { s with link := l } i = s.cavity i := rfl
    cases hc : s.cavity i with
    | none => simp [hc, faultCavity_none hc, faultCavity_none (s := { s with link := l }) (e.trans hc)]
    | some c => simp [hc, faultCavity_eq hc, faultCavity_eq (s := { s with link := l }) (e.trans hc)]; rfl

/-- A raised code whose entry only pauses, handed: its record and notice, the pause, its outputs (R21, R158). -/
theorem State.raise_drain_of_onlyPauses {s : State} (hr : s.raised = []) {code : Code} (h : s.onlyPauses code = true)
    (d : Nat) (h2 : ((s.noted code d).pauseAction code).raised = []) :
    (s.raise code d).drain =
      ((s.noted code d).pauseAction code).allOutputActions (s.maps.entry s.maps.active code) := by
  simp only [State.onlyPauses, Bool.and_eq_true, Bool.not_eq_true'] at h
  obtain ⟨⟨h1, h3⟩, h4⟩ := h
  rw [State.raise_eq_noted hr, State.drain, drainBound,
    State.drainWith_cons (r := { code := code, actions := s.maps.entry s.maps.active code }) (rest := []) rfl]
  have e : (State.updRaised ((s.noted code d).updRaised fun _ =>
      [{ code := code, actions := s.maps.entry s.maps.active code }]) fun _ => []) = s.noted code d := by
    have : (s.noted code d).raised = [] := hr
    simp only [State.updRaised]; rw [← this]
  rw [e]
  simp only [State.hand, h1, h3, h4, if_true]
  have hn : (((s.noted code d).pauseAction code).allOutputActions (s.maps.entry s.maps.active code)).raised = [] := by
    rw [State.allOutputActions_eq]; exact h2
  simp only [Bool.false_eq_true, if_false]
  rw [State.drainWith]; simp only [hn]

/-- An engine that is not PAUSED is not resumed. -/
theorem State.engineResume_of_not_paused {s : State} (h : s.engine.state ≠ .paused) : s.engineResume = s := by
  unfold State.engineResume
  split
  · exact absurd ‹_› h
  · rfl

/-- A PAUSED engine is resumed with its servo state reset, whatever its resume state (R22, R66). -/
theorem State.engineResume_of_paused {s : State} (h : s.engine.state = .paused) :
    s.engineResume = s.servoReset.engineRestart := by
  simp only [State.engineResume, h]

/-- What becomes of an ended separation chain's record, in one: the free choice of the model. -/
theorem dropEndedSeparation_eq (s : State) :
    s.dropEndedSeparation =
      { s with
        store :=
          { s.store with separation := if Config.separationCeasesAtEnd = true then none else s.store.separation }
        link :=
          { s.link with
            notices :=
              if Config.separationCeasesAtEnd = true then dropReports .separation s.store.separation s.link.notices
              else s.link.notices } } := by
  unfold State.dropEndedSeparation
  split <;> rfl

/-- Where the position is held after a separation chain, in one: the free choice of the model. -/
theorem placeAtSeparationEnd_eq (s : State) (i : CavityId) :
    s.placeAtSeparationEnd i =
      { s with
        engine :=
          { s.engine with
            commanded := if Config.separationHoldsAtHole = true then s.holeOf i else s.engine.commanded } } := by
  unfold State.placeAtSeparationEnd
  split <;> rfl

/-- All that the end of a WITHDRAW does to a waiting TO_HOLE: nothing without one, the pending mark in a PAUSED job, and
otherwise the move (R129, R130, R135). -/
theorem afterWithdraw_cases (s : State) :
    (¬ (s.recovery.stage = .toHole ∧ s.engine.state = .broken) ∧ s.afterWithdraw = s) ∨
      (s.job.state = .paused ∧ s.afterWithdraw = { s with recovery := { s.recovery with startPending := true } }) ∨
      (s.job.state ≠ .paused ∧ s.afterWithdraw = s.requestHole) := by
  unfold State.afterWithdraw
  by_cases h : s.recovery.stage = .toHole ∧ s.engine.state = .broken
  · by_cases hp : s.job.state = .paused
    · exact .inr (.inl ⟨hp, by simp only [if_pos h, State.startOrPend, if_pos hp]; rfl⟩)
    · exact .inr (.inr ⟨hp, by simp only [if_pos h, State.startOrPend, if_neg hp]⟩)
  · exact .inl ⟨h, by simp only [if_neg h]⟩

/-- The filling of the separation queue touches the queue alone (R34). -/
theorem fillQueue_eq (s : State) :
    s.fillQueue =
      { s with
        sepQueue :=
          if s.params.separationPolicy = .atEnd ∧ s.firstPlanned = none ∧ s.job.active = none then
            s.sepQueue ++ s.runOrder.filter s.fillable
          else s.sepQueue } := by
  unfold State.fillQueue
  split <;> rfl

/-- What one selection does, by the queue it leaves to take from and the first PLANNED cavity (R35). -/
theorem select_cases (s : State) :
    (∃ i rest, s.fillQueue.sepQueue = i :: rest ∧ s.select = State.selectSeparation { s with sepQueue := rest } i) ∨
      (s.fillQueue.sepQueue = [] ∧ ∃ i, s.firstPlanned = some i ∧ s.select = s.selectCutting i) ∨
      (s.fillQueue.sepQueue = [] ∧ s.firstPlanned = none ∧ s.select = s.completeJob) := by
  cases hq : s.fillQueue.sepQueue with
  | cons i rest =>
    refine .inl ⟨i, rest, rfl, ?_⟩
    simp only [State.select, hq]
    rw [fillQueue_eq]; rfl
  | nil =>
    have he : s.fillQueue = s := by
      have h : s.sepQueue = [] := by
        rw [fillQueue_eq] at hq
        simp only at hq
        split at hq
        · exact (List.append_eq_nil_iff.mp hq).1
        · exact hq
      rw [fillQueue_eq]
      rw [fillQueue_eq] at hq
      simp only at hq ⊢
      rw [hq, ← h]
    rw [he] at hq
    cases hf : s.firstPlanned with
    | some i => exact .inr (.inl ⟨rfl, i, rfl, by simp only [State.select, he, hq, hf]⟩)
    | none => exact .inr (.inr ⟨rfl, rfl, by simp only [State.select, he, hq, hf]⟩)

/-! ### The reports of a chain that has ceased (R59, R61) -/

@[simp] theorem dropReports_none (r : ChainRef) (q : List Notice) : dropReports r none q = q := rfl
@[simp] theorem ownedBy_none (i : CavityId) : ownedBy none i = none := rfl

/-- What is dropped: the PROGRESS notices of the chain, and no other notice. -/
theorem mem_dropReports {r : ChainRef} {o : Option OwnedChain} {q : List Notice} {n : Notice} :
    n ∈ dropReports r o q ↔ n ∈ q ∧ ∀ c, o = some c → n.reports r c = false := by
  cases o <;> simp [dropReports]

/-- The others keep their order. -/
theorem dropReports_sublist (r : ChainRef) (o : Option OwnedChain) (q : List Notice) : (dropReports r o q).Sublist q := by
  cases o with
  | none => exact List.Sublist.refl _
  | some c => exact List.filter_sublist

theorem length_dropReports_le (r : ChainRef) (o : Option OwnedChain) (q : List Notice) :
    (dropReports r o q).length ≤ q.length := (dropReports_sublist r o q).length_le

theorem length_withoutReportsOf_le (s : State) (i : CavityId) (q : List Notice) :
    (s.withoutReportsOf i q).length ≤ q.length :=
  Nat.le_trans (length_dropReports_le _ _ _) (length_dropReports_le _ _ _)

/-- All that the discard of the reroute chain does. -/
theorem discardReroute_eq (s : State) :
    s.discardReroute =
      { s with
        store := { s.store with free := s.store.free + heldBy s.store.reroute, reroute := none }
        link := { s.link with notices := dropReports .reroute s.store.reroute s.link.notices } } := rfl

@[simp] theorem heldBy_none : heldBy none = 0 := rfl
@[simp] theorem heldBy_some (o : OwnedChain) : heldBy (some o) = o.chain.segs.length := rfl
@[simp] theorem ownedSlots_none (i : CavityId) : ownedSlots none i = 0 := rfl
@[simp] theorem withoutOwner_none (i : CavityId) : withoutOwner none i = none := rfl

/-- What a cavity holds of an owned chain, and what then is left of it, are the whole. -/
theorem ownedSlots_add_withoutOwner (o : Option OwnedChain) (i : CavityId) :
    ownedSlots o i + heldBy (withoutOwner o i) = heldBy o := by
  cases o with
  | none => rfl
  | some c => by_cases h : c.owner = i <;> simp [ownedSlots, withoutOwner, heldBy, h]

end Sys2Proof.Machine
end

