-- ==== Sys2Proof/Laws/Parse.lean ====
section
/-! SUPPORT. What parsing answers: an index within its range, a cavity plan within its ranges (R29), the bounds of the fields of
a payload, the coordinate range, and a full cavity table. -/

namespace Sys2Proof.Machine

theorem indexOf_of_eq {n v : Nat} (k : Fin n) (h : v = k.val) : indexOf n v = some k := by simp [indexOf, h]

theorem indexOf_of_le {n v : Nat} (h : n ≤ v) : indexOf n v = none := by simp [indexOf]; omega

theorem byteAt_lt (bs : List Byte) (n : Nat) : byteAt bs n < 256 := (bs.getD n 0).isLt

theorem u16At_lt (bs : List Byte) (n : Nat) : u16At bs n < 65536 := by
  have := byteAt_lt bs n; have := byteAt_lt bs (n + 1)
  simp only [u16At]; omega

theorem u32At_lt (bs : List Byte) (n : Nat) : u32At bs n < 4294967296 := by
  have := u16At_lt bs n; have := u16At_lt bs (n + 2)
  simp only [u32At]; omega

/-- The coordinate range on both axes (chapter 0). -/
theorem inRange_iff (p : Point) :
    p.inRange = true ↔ (-8388608 ≤ p.x ∧ p.x ≤ 8388607 ∧ -8388608 ≤ p.y ∧ p.y ≤ 8388607) := by
  simp only [Point.inRange, inRange, Bool.and_eq_true, decide_eq_true_eq, and_assoc]; rfl

/-- Test 2 of R29 fails. -/
theorem parsePlan_eq_none {bs : List Byte}
    (h : ¬ (byteAt bs 0 ≤ 63 ∧ byteAt bs 13 ≤ 3 ∧ byteAt bs 14 ≤ 2 ∧ 1 ≤ byteAt bs 15 ∧ byteAt bs 15 ≤ 4 ∧
      byteAt bs 16 ≤ 7)) : parsePlan bs = none := by
  rw [parsePlan]
  split
  · rename_i a b c d h1 h2 h3 h4
    have e1 : byteAt bs 0 < 64 := Nat.lt_of_not_le fun hh => by rw [indexOf_of_le hh] at h1; cases h1
    have e2 : byteAt bs 13 < 4 := Nat.lt_of_not_le fun hh => by rw [indexOf_of_le hh] at h2; cases h2
    have e4 : byteAt bs 16 < 8 := Nat.lt_of_not_le fun hh => by rw [indexOf_of_le hh] at h4; cases h4
    have e3 : byteAt bs 14 ≤ 2 := by
      refine Nat.le_of_not_lt fun hh => ?_
      have : methodOf (byteAt bs 14) = none := by
        unfold methodOf; split <;> first | omega | rfl
      rw [this] at h3; cases h3
    rw [if_neg]
    simp only [within, Bool.and_eq_true, decide_eq_true_eq]
    omega
  · rfl

/-- Test 2 of R29 is passed: the plan has the fields of the payload. -/
theorem parsePlan_eq_some {bs : List Byte}
    (h : byteAt bs 0 ≤ 63 ∧ byteAt bs 13 ≤ 3 ∧ byteAt bs 14 ≤ 2 ∧ 1 ≤ byteAt bs 15 ∧ byteAt bs 15 ≤ 4 ∧
      byteAt bs 16 ≤ 7) :
    ∃ p, parsePlan bs = some p ∧ p.id.val = byteAt bs 0 ∧ p.tag = BitVec.ofNat 32 (u32At bs 1) ∧
      p.hole = ⟨s32At bs 5, s32At bs 9⟩ ∧ p.profile.val = byteAt bs 13 ∧ methodOf (byteAt bs 14) = some p.method ∧
      p.passCount = byteAt bs 15 ∧ p.sepClass.val = byteAt bs 16 := by
  obtain ⟨m, hm⟩ : ∃ m, methodOf (byteAt bs 14) = some m := by
    have : byteAt bs 14 = 0 ∨ byteAt bs 14 = 1 ∨ byteAt bs 14 = 2 := by omega
    rcases this with h | h | h <;> exact ⟨_, by rw [h]; rfl⟩
  rw [parsePlan, indexOf_of_eq (n := 64) ⟨byteAt bs 0, by omega⟩ rfl, indexOf_of_eq (n := 4) ⟨byteAt bs 13, by omega⟩ rfl,
    indexOf_of_eq (n := 8) ⟨byteAt bs 16, by omega⟩ rfl, hm]
  simp only
  rw [if_pos (by simp [within]; omega)]
  exact ⟨_, rfl, rfl, rfl, rfl, rfl, rfl, rfl, rfl⟩

/-- The table holds 64 records exactly when every id has one (R29, test 4). -/
theorem recordCount_eq_full (s : State) : s.recordCount = 64 ↔ ∀ i, (s.cavity i).isSome = true := by
  have hl : s.cavities.toList.length = 64 := by simp
  rw [State.recordCount]
  constructor
  · intro h i
    have := List.length_filter_eq_length_iff.1 (h.trans hl.symm)
    exact this _ (by simp [State.cavity])
  · intro h
    rw [List.length_filter_eq_length_iff.2, hl]
    intro o ho
    obtain ⟨n, hn, rfl⟩ := List.mem_iff_getElem.1 ho
    have hn' : n < 64 := by simpa using hn
    have := h ⟨n, hn'⟩; rw [Vector.getElem_toList]; exact this

end Sys2Proof.Machine
end

