-- ==== Sys2Proof/Tests/Slice0.lean ====
section
/-! SUPPORT. The model's own tests: the WellFormed smoke, single commands against the worked examples of the reference (each names
its section), and a witness for the hypotheses of every statement. Expected values are the reference's figures. -/

namespace Sys2Proof.Tests

open Sys2Proof Sys2Proof.Machine

-- The kernel's evaluations below wait for every earlier declaration; one after another they need one thread.
set_option Elab.async false

/-! ### Helpers -/

/-- The command answers a next state with a property. -/
def after (c : Instr) (s : State) (p : State → Bool) : Bool :=
  match exec c s with
  | .next t => p t
  | .fault _ => false
  | .refused _ => false

/-- A request waits alone in the request list. -/
def ask (kind tag : Byte) (payload : List Byte) (s : State) : State :=
  { s with link := { s.link with requests := [⟨kind, tag, payload⟩] } }

/-- The frame in transmission is a reply with this payload. -/
def answered (kind tag : Byte) (payload : List Byte) (t : State) : Bool :=
  decide (t.link.sending = some ⟨kind, tag, payload⟩)

def pinsUp : Pins := { Pins.allLow with interlock := true, dielectricOk := true }

def lim : Limits :=
  { feedCeil := 200, retraceCeil := 30000, jetCeil := 6, annealCeil := 500, rapidCeil := 2000, attemptCeil := 8 }

def idleS : State := { State.reset with pins := pinsUp }

def limitedS : State := { idleS with limits := some lim }

/-! The rough pass of cavity 5 (chapter 3.2, the example's table). -/

def seg (seq s0 len : Nat) (dx dy : Int) (start : Point) : Segment :=
  { seq := seq, dx := dx, dy := dy, feedClass := 0, mode := .cut, entry := false, hold := false, close := false, s0 := s0
    len := len, start := start, stop := ⟨start.x + dx, start.y + dy⟩, state := .queued }

def seg0 : Segment := { seg 0 0 30000 0 30000 ⟨1000000, 2000000⟩ with mode := .dry }
def seg1 : Segment := seg 1 30000 50000 40000 30000 ⟨1000000, 2030000⟩
def seg2 : Segment := { seg 2 80000 200000 200000 0 ⟨1040000, 2060000⟩ with entry := true }
def seg3 : Segment := seg 3 280000 150000 0 150000 ⟨1240000, 2060000⟩
def seg4 : Segment := seg 4 430000 200000 (-200000) 0 ⟨1240000, 2210000⟩
def seg5 : Segment := { seg 5 630000 100000 0 (-100000) ⟨1040000, 2210000⟩ with hold := true }
def seg6 : Segment := { seg 6 730000 50000 0 (-50000) ⟨1040000, 2110000⟩ with close := true }

def engaged (g : Segment) : Segment := { g with state := .engaged }

/-- The whole rough pass, with the segments given held. -/
def rough (segs : List Segment) : Chain :=
  { Chain.new 0 with
    segs := segs, appended := 7, nextSeq := 7, closed := true, holdOffset := some 630000, holdPoint := ⟨1040000, 2210000⟩
    endOffset := 780000, endPoint := ⟨1040000, 2060000⟩, depth := 20000, entrySeq := some 2, leadInCount := 2
    bridgeCount := 2 }

/-- Cavity 5: BRIDGE, two passes, separation class 2 (chapters 3.2 and 8.7). -/
def cav5 : Cavity :=
  { tag := 7, hole := ⟨1000000, 2000000⟩, profile := 0, planned := .bridge, effective := none, passCount := 2, sepClass := 2
    state := .planned, currentPass := 0, passes := #v[PassRec.new 0, PassRec.new 1, PassRec.new 2, PassRec.new 3]
    breakCount := 0, attemptsUsed := 0, fault := none, bridgeLength := none, sepSelected := false, leadIn := [], bridge := [] }

def withPass (st : PassState) (ch : Chain) (c : Cavity) : Cavity :=
  { c with passes := c.passes.set 0 { state := st, savedP := 0, savedH := 0, chain := ch } }

/-- A state with one cavity record, under id 5, heading the run order. -/
def holding (c : Cavity) (s : State) : State :=
  { s with cavities := (Vector.replicate 64 none).set 5 (some c), runOrder := [5] }

def jobIn (st : JobState) (active : Option CavityId) (s : State) : State :=
  { s with job := { state := st, params := some JobParams.default, reasons := ⟨false, false, false, false⟩, active := active } }

def pausedFor (r : Reasons) (active : Option CavityId) (s : State) : State :=
  { s with job := { state := .paused, params := some JobParams.default, reasons := r, active := active } }

/-- A job is LOADING, with cavity 5 planned. -/
def loadingS : State := jobIn .loading none (holding cav5 limitedS)

/-- Cavity 5 cutting its rough pass at P = H = 100,000, inside sequence 2. -/
def cutting5 : Cavity :=
  { withPass .active (rough [engaged seg2, engaged seg3, engaged seg4, seg5, seg6]) cav5 with
    state := .cutting, leadIn := [seg0, seg1] }

def cutEngine : Engine :=
  { State.reset.engine with
    state := .cutting, chain := some (.pass 0), p := 100000, h := 100000, floor := 80000, commanded := ⟨1060000, 2060000⟩ }

def wireIn : Threading :=
  { State.reset.threading with state := .threaded, wireIn := true, out := { ThreadOut.off with tensionEngage := true } }

def cuttingS : State :=
  { jobIn .running (some 5) (holding cutting5 limitedS) with engine := cutEngine, threading := wireIn }

/-- The same job PAUSED for the host, its engine out of CUTTING. -/
def pausedS : State :=
  { pausedFor ⟨true, false, false, false⟩ (some 5) cuttingS with
    engine := { cutEngine with state := .paused, resume := some .cutting, prevStep := 7, run := 2 } }

/-- Cavity 5 in a threading for cutting, its engine idle over the start hole. -/
def threadingS (st : ThreadState) (t : Threading → Threading) : State :=
  { jobIn .running (some 5) (holding { cav5 with state := .threading, attemptsUsed := 1 } limitedS) with
    engine := { State.reset.engine with commanded := ⟨1000000, 2000000⟩ }
    threading :=
      t { State.reset.threading with
          state := st, work := some { purpose := .cutting, target := ⟨1000000, 2000000⟩, attempt := 1, cavity := 5 } } }

/-- A window report with four counts and a flags byte (chapter 11.6). -/
def report (o n a s : Nat) (flags : Byte) : List Byte := enc16 o ++ enc16 n ++ enc16 a ++ enc16 s ++ [flags]

/-! ### WellFormed smoke: each check refuses an ill-formed term -/

theorem test_payload_of_251_refused : (Instr.status 0 (List.replicate 251 0)).wellFormed = false := by decide +kernel
theorem test_payload_of_250_taken : (Instr.segAppend 0 (List.replicate 250 0)).wellFormed = true := by decide +kernel
theorem test_known_kind_refused : (Instr.unknownKindRequest 0x51#8 0 []).wellFormed = false := by decide
theorem test_unknown_kind_taken : (Instr.unknownKindRequest 0x52#8 0 []).wellFormed = true := by decide
theorem test_empty_frame_refused : (Instr.frameReceive []).wellFormed = false := by decide
theorem test_long_frame_refused : (Instr.frameReceive (List.replicate 257 0)).wellFormed = false := by decide +kernel
theorem test_event_taken : Instr.jobClockAdvance.wellFormed = true := by decide

/-- The table gives no bits, so no word spells a command. -/
theorem test_no_word_spells_a_command : decodeTableWord 8 0x01 = none := rfl

/-! ### Link port -/

/-- The check value of the CRC-16 with polynomial 0x1021, initial value 0xFFFF, no reflection and no final XOR over the ASCII
digits 1 to 9 is 0x29B1 (the published check value of that CRC). -/
theorem test_crc_check_value :
    crc16 [0x31#8, 0x32#8, 0x33#8, 0x34#8, 0x35#8, 0x36#8, 0x37#8, 0x38#8, 0x39#8] = 0x29B1#16 := by decide +kernel

/-- R1: the strap table. -/
theorem test_strap_rates :
    strapRate Pins.allLow = 115200 ∧ strapRate { Pins.allLow with strap1 := true } = 460800 ∧
      strapRate { Pins.allLow with strap2 := true } = 921600 := by decide

/-- R2: LENGTH 251 drops the frame, and hunting goes on with the next byte. -/
theorem test_length_251_drops :
    after (.frameReceive [0xC3#8, 0xFB#8, 0xC3#8]) idleS (fun t => decide (t.link.framer = .collecting [])) = true := by
  decide +kernel

/-- R15: the reply to RESET stands behind none and goes out; the requests are gone. -/
theorem test_reset_reply :
    after (.reset 9 []) (ask 0x02#8 9 [] idleS)
      (fun t => answered 0x82#8 9 [0x00#8] t && t.link.resetting && t.link.requests.isEmpty) = true := by decide +kernel

/-- R12: an OPERATOR write to a written record is refused AUTHORITY even with fields out of range. -/
theorem test_limits_authority :
    after (.limitsSet false 1 (List.replicate 10 0)) (ask 0x10#8 1 (List.replicate 10 0) limitedS)
      (answered 0x90#8 1 [0x21#8]) = true := by decide +kernel

/-- R4: KIND 0x7F is answered UNKNOWN_KIND under KIND 0xFF. -/
theorem test_unknown_kind :
    after (.unknownKindRequest 0x7F#8 3 [1#8]) (ask 0x7F#8 3 [1#8] idleS) (answered 0xFF#8 3 [0x12#8]) = true := by
  decide +kernel

/-! ### Jobs and cavities -/

/-- R19: an empty JOB_OPEN under an RT_CEIL of 15,000 stores RT 15,000 and is answered OK_CLAMPED; the reply carries 0x3A98 at
offset 3 of the record. -/
theorem test_job_open_clamps :
    after (.jobOpen 1 []) (ask 0x20#8 1 [] { limitedS with limits := some { lim with retraceCeil := 15000 } })
      (fun t => decide (t.job.state = .loading) && decide (t.params.retrace = 15000) &&
        (match t.link.sending with
         | some f => decide (f.payload.take 6 = [0x01#8, 0x00#8, 0x00#8, 0x00#8, 0x98#8, 0x3A#8])
         | none => false)) = true := by decide +kernel

/-- Chapter 2.4, the example: 9 to index 1, 2 to index 40, 2 to index 0. -/
theorem test_cavity_move_example :
    moveTo 9 1 [4, 7, 2, 9] = [4, 9, 7, 2] ∧ moveTo 2 40 [4, 9, 7, 2] = [4, 9, 7, 2] ∧
      moveTo 2 0 [4, 9, 7, 2] = [2, 4, 9, 7] := by decide

/-- R36: the first selection moves cavity 5 to THREADING and starts the rapid move to its hole. -/
theorem test_job_start_selects :
    after (.jobStart 1 []) (ask 0x21#8 1 [] loadingS)
      (fun t => decide (t.job.active = some 5) && decide (t.engine.state = .rapid) &&
        decide (t.engine.move = some (.rapid ⟨0, 0⟩ ⟨1000000, 2000000⟩ 0 .sequencer .idle))) = true := by decide +kernel

/-- R21, R22: an opening in FOLLOW mode adds INTERLOCK and EVENT, and JOB_RESUME is then refused INTERLOCK. -/
theorem test_interlock_fall_adds_two :
    after .interlockFall cuttingS
      (fun t => decide (t.job.reasons = ⟨false, true, true, false⟩) && decide (t.job.state = .paused) && !t.engine.genEn &&
        decide (t.engine.resume = some .cutting)) = true := by decide +kernel

theorem test_resume_refused_interlock :
    after (.jobResume 1 []) (ask 0x23#8 1 [] (pausedFor ⟨true, false, true, false⟩ (some 5) pausedS))
      (answered 0xA3#8 1 [0x51#8]) = true := by decide +kernel

/-- R101: the engine returns to CUTTING with previous step 0 and k 0, and GEN_EN is asserted before its first window. -/
theorem test_resume_to_cutting :
    after (.jobResume 1 []) (ask 0x23#8 1 [] pausedS)
      (fun t => decide (t.engine.state = .cutting) && decide (t.engine.prevStep = 0) && decide (t.engine.run = 0) &&
        t.engine.genEn) = true := by decide +kernel

/-! ### The segment store -/

/-- Chapter 11.5, the note: sequence 2 and sequence 6 of the example. -/
def rec0 : List Byte := [5#8, 0#8] ++ enc16 0 ++ encS32 0 ++ encS32 30000 ++ [0x08#8]
def rec1 : List Byte := [5#8, 0#8] ++ enc16 1 ++ encS32 40000 ++ encS32 30000 ++ [0x00#8]
def rec2 : List Byte := [0x05, 0x00, 0x02, 0x00, 0x40, 0x0D, 0x03, 0x00, 0x00, 0x00, 0x00, 0x00, 0x10]
def rec6 : List Byte := [0x05, 0x00, 0x06, 0x00, 0x00, 0x00, 0x00, 0x00, 0xB0, 0x3C, 0xFF, 0xFF, 0x40]

theorem test_segment_records_parse :
    (parseRecord rec2 0).dx = 200000 ∧ (parseRecord rec2 0).dy = 0 ∧ (parseRecord rec2 0).entry = true ∧
      (parseRecord rec6 0).dy = -50000 ∧ (parseRecord rec6 0).close = true ∧ (parseRecord rec6 0).seq = 6 := by
  decide +kernel

/-- Chapter 3.3, the example's first request: accepted 3, OK, free count 2045 = 0x07FD, end offset 280,000, lengths by the
integer square root. -/
theorem test_append_example :
    after (.segAppend 1 (rec0 ++ rec1 ++ rec2)) (ask 0x30#8 1 (rec0 ++ rec1 ++ rec2) loadingS)
      (fun t => answered 0xB0#8 1 [0x00#8, 0x03#8, 0xFD#8, 0x07#8] t &&
        (match t.cavity 5 with
         | some c => decide ((c.passes[(0 : PassIx)]).chain.segs = [seg0, seg1, seg2]) &&
             decide ((c.passes[(0 : PassIx)]).chain.endOffset = 280000)
         | none => false)) = true := by decide +kernel

/-- The same request stopped at its last record when that is sequence 6: OUT_OF_ORDER, accepted 2. -/
theorem test_append_refusal :
    after (.segAppend 1 (rec0 ++ rec1 ++ rec6)) (ask 0x30#8 1 (rec0 ++ rec1 ++ rec6) loadingS)
      (answered 0xB0#8 1 [0x41#8, 0x02#8, 0xFE#8, 0x07#8]) = true := by decide +kernel

/-- Chapter 3.5, the example: thirty-one segments of 50 pu under a depth of 1,000 at H = 1,500 keep 14 to 29 as CUT, floor 700. -/
def short (n : Nat) : Segment :=
  { seg n (50 * n) 50 50 0 ⟨50 * n, 0⟩ with state := if n < 30 then .cut else .engaged }

def shortChain : Chain :=
  { Chain.new 0 with segs := (List.range 33).map short, appended := 33, nextSeq := 33, depth := 1000, endOffset := 1650 }

theorem test_retrace_window :
    (shortChain.retiring 1500).1.length = 14 ∧ ((shortChain.retiring 1500).2.map fun g => g.seq) = (List.range 19).map (· + 14) ∧
      Chain.floorAt { shortChain with segs := (shortChain.retiring 1500).2 } 1500 1500 = 700 := by decide +kernel

/-- R50: a segment that is ENGAGED is TOO_LATE, one that is QUEUED takes the class. -/
theorem test_revise_queued :
    after (.segRevise 1 [5#8, 0#8, 5#8, 0#8, 3#8]) (ask 0x31#8 1 [5#8, 0#8, 5#8, 0#8, 3#8] cuttingS)
      (answered 0xB1#8 1 [0x00#8]) = true := by decide +kernel

theorem test_revise_engaged :
    after (.segRevise 1 [5#8, 0#8, 4#8, 0#8, 3#8]) (ask 0x31#8 1 [5#8, 0#8, 4#8, 0#8, 3#8] cuttingS)
      (answered 0xB1#8 1 [0x49#8]) = true := by decide +kernel

/-! ### Windows (chapter 4.4, the worked windows) -/

def class1 : FeedClass := { cap := 200, accel := 20, retract := 30, energy := 4, theta := 300 }
def class4 : FeedClass := { cap := 150, accel := 15, retract := 150, energy := 4, theta := 250 }

def servoS (cls : FeedClass) (prev run : Nat) (ref : Option Fractions) : State :=
  { cuttingS with
    feed := Vector.replicate 8 cls
    engine := { cutEngine with prevStep := prev, run := run, reference := ref } }

/-- Case 1: the applied step is 80. -/
theorem test_window_case1 :
    after (.windowReport (report 120 700 80 100 0)) (servoS class1 60 0 (some ⟨100, 760, 60, 80⟩))
      (fun t => decide (t.engine.p = 100080) && decide (t.engine.prevStep = 80) &&
        decide (t.engine.reference = some ⟨120, 700, 80, 100⟩) && decide (t.engine.commanded = ⟨1060080, 2060000⟩)) = true := by
  decide +kernel

/-- Case 2: the retract lengths of a run with B = 30. -/
theorem test_retract_lengths :
    retractLength 30 1 = 30 ∧ retractLength 30 2 = 60 ∧ retractLength 30 3 = 120 ∧ retractLength 30 4 = 120 := by decide

/-- Case 4: fractions 128, 643, 193, 34; the applied step is 26. -/
theorem test_window_case4 :
    after (.windowReport (report 100 500 150 27 0)) (servoS class4 40 0 (some ⟨60, 800, 40, 100⟩))
      (fun t => decide (t.engine.p = 100026) && decide (t.engine.reference = some ⟨128, 643, 193, 34⟩)) = true := by
  decide +kernel

/-- Case 5: the feed cap under an override of 150. -/
theorem test_desired_step_capped :
    desiredStep { class1 with cap := 100 } 100 1024 150 = 100 ∧ desiredStep class1 200 440 100 = 85 := by decide

/-- Case 6, window 5: no room, STUCK_SHORT with k = 4; its locked PAUSE pauses the job. -/
theorem test_stuck_short :
    after (.windowReport (report 10 500 190 300 0))
      { servoS class4 0 3 none with engine := { cutEngine with p := 80000, run := 3 } }
      (fun t => decide (t.engine.run = 4) && decide (t.job.state = .paused) &&
        decide (t.log.map (fun r => (r.code, r.content.detail)) = [(Event.stuckShort, 4)])) = true := by decide +kernel

/-- Chapter 4.5, the worked rapid move: Lr = 10,770 and the positions of windows 1, 2, 7 and 8. -/
theorem test_rapid_move :
    rapidLength ⟨0, 0⟩ ⟨10000, -4000⟩ = 10770 ∧ rapidPosition ⟨0, 0⟩ ⟨10000, -4000⟩ 1500 = ⟨1392, -557⟩ ∧
      rapidPosition ⟨0, 0⟩ ⟨10000, -4000⟩ 3000 = ⟨2785, -1114⟩ ∧
      rapidPosition ⟨0, 0⟩ ⟨10000, -4000⟩ 10500 = ⟨9749, -3899⟩ ∧
      rapidPosition ⟨0, 0⟩ ⟨10000, -4000⟩ 10770 = ⟨10000, -4000⟩ := by decide +kernel

/-- Chapter 4.6, the worked interpolation, forward and reversed. -/
theorem test_interpolation :
    let g := seg 0 0 50000 30000 (-40000) ⟨1000000, 500000⟩
    g.position 1 = ⟨1000000, 500000⟩ ∧ g.position 12345 = ⟨1007407, 490124⟩ ∧ g.position 50000 = ⟨1030000, 460000⟩ ∧
      (Segment.toReversed 0 g).position 49999 = ⟨1000001, 499999⟩ := by decide +kernel

/-! ### Threading (chapter 6.5, the example) -/

def profile6 : Profile := { Profile.default with offsets := [⟨0, 0⟩, ⟨400, 0⟩, ⟨0, 400⟩] }

theorem test_jet_levels :
    [1, 2, 3, 4, 5].map (jetLevel profile6 6 .cutting) = [3, 4, 5, 6, 6] ∧ jetLevel profile6 6 .kerf 1 = 5 ∧
      [1, 2, 3, 4, 5].map (fun i => attemptPosition profile6
        { purpose := .cutting, target := ⟨500000, 800000⟩, attempt := i, cavity := 5 }) =
        [⟨500000, 800000⟩, ⟨500400, 800000⟩, ⟨500000, 800400⟩, ⟨500000, 800000⟩, ⟨500400, 800000⟩] := by decide +kernel

/-- Chapter 6.8, the example at 352 ms: CUTTER_HOME rises, the move arrives at once, JET at level 3 with FEED_FWD. -/
theorem test_cutter_home_begins_jet :
    after .cutterHomeRise (threadingS .trim fun t => { t with homeWait := true, timer := some 500 })
      (fun t => decide (t.threading.state = .jet) && decide (t.threading.timer = some 2000) &&
        decide (t.threading.out = { ThreadOut.off with jet := true, jetLevel := 3, feedFwd := true })) = true := by
  decide +kernel

/-- The same at 2352 ms: THREAD_FAIL carries 257, WITHDRAW begins with FEED_REV. THREAD_FAIL's default entry is LOG. -/
theorem test_pass_timeout_withdraws :
    after .passTimeout (threadingS .jet fun t => { t with timer := some 2000 })
      (fun t => decide (t.threading.state = .withdraw) && decide (t.threading.out = { ThreadOut.off with feedRev := true }) &&
        decide (t.log.map (fun r => (r.code, r.content.detail)) = [(Event.threadFail, 257)])) = true := by decide +kernel

/-- The same at 3995 ms: THREADED, WIRE_IN set; pass 0 with nothing appended waits STARVED. -/
theorem test_tension_threads :
    after .tensionSenseRise (threadingS .tension fun t => { t with timer := some 500 })
      (fun t => decide (t.threading.state = .threaded) && t.threading.wireIn && decide (t.engine.state = .starved) &&
        decide ((t.cavity 5).map Cavity.state = some .cutting)) = true := by decide +kernel

/-! ### Recovery, retention, separation -/

/-- Chapter 7.2, the resume offsets: P = 396,000 after a retract, the floor 392,300 above the segment's start. -/
theorem test_resume_offset :
    let g := { seg 0 380000 20000 0 20000 ⟨450000, 240000⟩ with state := .cut }
    let s : State :=
      { cuttingS with
        job := { cuttingS.job with params := some { JobParams.default with resumePolicy := .atSegmentStart } }
        engine := { cutEngine with p := 396000, h := 412300, floor := 392300 } }
    (s.resumePointOf { state := .active, savedP := 0, savedH := 0, chain := { Chain.new 0 with segs := [g] } } ⟨396000, ⟨0, 0⟩⟩
      false) = { offset := 392300, pos := ⟨450000, 252300⟩ } := by decide +kernel

/-- R124: WIRE_LOST breaks the cut: BREAK_RECOVERY, one break, the stub SEVER begun, the engine BROKEN. -/
theorem test_wire_lost_breaks :
    after .tensionSenseFall cuttingS
      (fun t => decide ((t.cavity 5).map (fun c => (c.state, c.breakCount)) = some (.breakRecovery, 1)) &&
        decide (t.recovery.stage = .stubCut) && decide (t.engine.state = .broken) && decide (t.threading.state = .sever) &&
        !t.threading.wireIn && decide (t.recovery.breakPoint = some ⟨100000, ⟨1060000, 2060000⟩⟩)) = true := by decide +kernel

/-- Chapter 8.3, the example's skims: passes 1 and 2 move by (100,000, 100,000) and (200,000, 100,000). -/
def skim1 : Chain :=
  { Chain.new 1 with
    segs := [seg 0 0 100000 100000 0 ⟨2000000, 1000000⟩], appended := 3, nextSeq := 3, closed := true
    holdOffset := some 100000, holdPoint := ⟨2100000, 1000000⟩, endPoint := ⟨2000000, 1000000⟩ }
def skim2 : Chain :=
  { Chain.new 2 with
    segs := [seg 0 0 50000 50000 0 ⟨2000000, 1000000⟩], appended := 1, nextSeq := 1, endPoint := ⟨2050000, 1000000⟩ }
def cav9 : Cavity :=
  { cav5 with
    planned := .clamp, passCount := 3
    passes :=
      #v[{ state := .active, savedP := 0, savedH := 0
           chain :=
             { Chain.new 0 with
               appended := 4, nextSeq := 4, closed := true, holdOffset := some 200000, holdPoint := ⟨2100000, 1100000⟩
               endOffset := 400000, endPoint := ⟨2000000, 1000000⟩ } },
         { state := .notStarted, savedP := 0, savedH := 0, chain := skim1 },
         { state := .notStarted, savedP := 0, savedH := 0, chain := skim2 }, PassRec.new 3] }

theorem test_shifted_skims :
    ((cav9.shiftSkims.passes[(1 : PassIx)]).chain.segs.map fun g => g.start) = [⟨2100000, 1100000⟩] ∧
      (cav9.shiftSkims.passes[(1 : PassIx)]).chain.holdPoint = ⟨2200000, 1100000⟩ ∧
      (cav9.shiftSkims.passes[(1 : PassIx)]).chain.endPoint = ⟨2100000, 1100000⟩ ∧
      ((cav9.shiftSkims.passes[(2 : PassIx)]).chain.segs.map fun g => (g.start, g.stop)) =
        [(⟨2200000, 1100000⟩, ⟨2250000, 1100000⟩)] := by decide +kernel

/-- Chapter 8.7, the example: cavity 5 RETAINED, its separation chain as the table gives it. -/
def retained5 : Cavity :=
  { cav5 with
    state := .retained, effective := some .bridge, bridgeLength := some 150000
    leadIn := [{ seg0 with state := .leadIn }, { seg1 with state := .leadIn }]
    bridge := [{ seg5 with state := .parked }, { seg6 with state := .parked }] }

theorem test_separation_chain :
    retained5.contourCloses = true ∧
      (retained5.separationSegs.map fun g => (g.seq, g.mode, g.dx, g.dy)) =
        [(0, .dry, 0, 30000), (1, .dry, 40000, 30000), (2, .cut, 0, 50000), (3, .cut, 0, 100000)] ∧
      (retained5.separationSegs.map fun g => (g.s0, g.len)) =
        [(0, 30000), (30000, 50000), (80000, 50000), (130000, 100000)] ∧
      (retained5.separationSegs.map fun g => g.start) =
        [⟨1000000, 2000000⟩, ⟨1000000, 2030000⟩, ⟨1040000, 2060000⟩, ⟨1040000, 2110000⟩] := by decide +kernel

/-! ### Event map, interlock, channels, log -/

/-- Chapter 9.3, the example: PAUSE and PULSE1 for CLAMP_LOST, refused for the active map and joined to the locked set in the
other. -/
theorem test_map_write_active :
    after (.mapWrite 1 ([0#8, 6#8] ++ enc32 0x204)) (ask 0x40#8 1 ([0#8, 6#8] ++ enc32 0x204) idleS)
      (answered 0xC0#8 1 [0x50#8]) = true := by decide +kernel

theorem test_map_write_joins_locked :
    after (.mapWrite 1 ([1#8, 6#8] ++ enc32 0x204)) (ask 0x40#8 1 ([1#8, 6#8] ++ enc32 0x204) idleS)
      (fun t => answered 0xC0#8 1 [0x00#8] t && decide (t.maps.entry .b 6 = 0x207#32)) = true := by decide +kernel

/-- Chapter 11.3: the entries of a device code and of DRIVE_FAULT. -/
theorem test_default_entries :
    State.reset.maps.entry .a Event.spoolLow = 0x00000001#32 ∧ State.reset.maps.entry .b Event.driveFault = 0x0000000B#32 := by
  decide +kernel

/-- Chapter 9.5, the example's channel: delay 20,000, width 30,000; a trigger while DELAYING is ignored. -/
def beacon : Channel :=
  { Channel.default with stored := ⟨20000, 30000, .high⟩, inForce := ⟨20000, 30000, .high⟩ }

theorem test_beacon_triggers :
    beacon.trigger.state = .delaying ∧ beacon.trigger.trigger = beacon.trigger ∧
      beacon.trigger.delayExpired.output = true ∧ beacon.trigger.delayExpired.timer = some 30000 ∧
      beacon.trigger.delayExpired.widthExpired = beacon := by decide

/-- Chapter 9.6, the example: the guard closed in LATCH mode keeps INTERLOCK and carries detail 1. -/
theorem test_latch_rise_keeps_reason :
    after .interlockRise
      { pausedFor ⟨false, true, true, false⟩ (some 5) pausedS with
        pins := { pinsUp with interlock := false }, interlock := { mode := .latch, latched := true } }
      (fun t => t.job.reasons.interlock && decide (t.log.map (fun r => (r.code, r.content.detail)) = [(Event.interlockClosed, 1)]))
      = true := by decide +kernel

/-- Chapter 10.2, the example on a log of 256: the oldest goes, its successor is flagged. -/
def entry (n : Nat) : LogRecord :=
  { code := 11, content := { cavity := none, chain := none, offset := 0, detail := n, clock := 0 }, discontinuity := false }

theorem test_full_log :
    let l := pushLog (pushLog ((List.range 256).map entry) (entry 256)) (entry 257)
    l.length = 256 ∧ (l.take 2).map (fun r => (r.content.detail, r.discontinuity)) = [(2, true), (3, false)] ∧
      (l.getLast?.map fun r => r.content.detail) = some 257 := by decide +kernel

theorem test_log_read_of_0 :
    after (.logRead 1 [0#8]) (ask 0x51#8 1 [0#8] idleS) (answered 0xD1#8 1 [0x11#8]) = true := by decide +kernel

/-- R172: the clock wraps from its largest value to 0. -/
theorem test_clock_wraps :
    after .jobClockAdvance { idleS with clock := 0xFFFFFFFF#32 } (fun t => decide (t.clock = 0)) = true := by decide +kernel

/-! ### Witnesses: the hypotheses of each statement are met, clause by clause, at the values where its ranges end

`asked` says that the port decides the request now and that nothing else waits. -/

abbrev asked (kind tag : Byte) (payload : List Byte) (s : State) : Prop :=
  (ask kind tag payload s).decides kind tag payload = true ∧ (ask kind tag payload s).quiet

/-- A property of every value an option can hold. -/
theorem forall_of_all {α : Type} {o : Option α} {p : α → Bool} (h : o.all p = true) : ∀ a, o = some a → p a = true := by
  rintro a rfl; exact h

theorem witness_FrontCommandIsExecuted :
    { idleS with pending := [.jobClockAdvance, .heartbeatExpiry] }.pending = .jobClockAdvance :: [.heartbeatExpiry] := rfl

theorem witness_PowerEventsResetThePart :
    (let s : State := { idleS with power := ⟨true, false⟩ }
     s.power.resetN = false ∧ s.power.valid = true ∧ isPowerEvent .jobClockAdvance = false ∧ s.operating = false) ∧
    (let s : State := { idleS with power := ⟨false, false⟩ }
     s.power.resetN = false ∧ s.power.valid = false) ∧
    (Pins.allLow.strap2 = false ∧ Pins.allLow.strap1 = false) ∧
    (let p : Pins := { Pins.allLow with strap1 := true }
     p.strap2 = false ∧ p.strap1 = true) ∧
    (let p : Pins := { Pins.allLow with strap2 := true }
     p.strap2 = true ∧ p.strap1 = false) ∧
    (let p : Pins := { Pins.allLow with strap2 := true, strap1 := true }
     p.strap2 = true ∧ p.strap1 = true) := by decide

theorem witness_WholeFrameIsTaken :
    idleS.operating = true ∧ idleS.link.resetting = false ∧ idleS.link.framer = .hunting ∧
      (Frame.mk 0x30#8 1 (List.replicate 250 0)).payload.length ≤ 250 ∧ (Frame.mk 0x01#8 1 []).payload.length ≤ 250 ∧
      0x0000#16 ≠ crc16 (Frame.mk 0x01#8 1 []).body := by decide +kernel

/-- HUNTING at SYNC and at the byte below it; COLLECTING with LENGTH 251, LENGTH 250, LENGTH 0 before its last byte and at it. -/
theorem witness_ReceivedByteMovesFramer :
    let s (got : List Byte) : State := { idleS with link := { idleS.link with framer := .collecting got, gapTimer := some 5 } }
    (idleS.operating = true ∧ idleS.link.resetting = false ∧ idleS.link.framer = .hunting ∧ 0xC2#8 ≠ 0xC3#8) ∧
    (250 < byteAt ([] ++ [0xFB#8]) 0 ∧ (s []).link.framer = .collecting [] ∧ (s []).link.gapTimer.isSome = true) ∧
    (byteAt ([] ++ [0xFA#8]) 0 ≤ 250 ∧ ([] ++ [0xFA#8]).length ≠ byteAt ([] ++ [0xFA#8]) 0 + 5) ∧
    (let g : List Byte := [0#8, 1#8, 2#8, 0#8] ++ [0#8]
     byteAt g 0 ≤ 250 ∧ g.length = byteAt g 0 + 5 ∧
       crc16 (g.take (byteAt g 0 + 3)) ≠ BitVec.ofNat 16 (u16At g (byteAt g 0 + 3))) := by decide +kernel

def anEvent : EventContent := { cavity := none, chain := none, offset := 0, detail := 0, clock := 0 }
def aProgress : ProgressContent := { cavity := 5, chain := .pass 0, h := 0, retired := 1, free := 2000, serial := 0 }
def aFrame : Frame := ⟨0x81#8, 1#8, [0x00#8]⟩
def sendingS (replies : List Frame) (notices : List Notice) : State :=
  { idleS with link := { idleS.link with sending := some aFrame, replies := replies, notices := notices } }

theorem witness_TransmitterChoosesNextFrame :
    (sendingS [aFrame] []).operating = true ∧ (sendingS [aFrame] []).link.sending = some aFrame ∧
      (sendingS [aFrame] []).link.isResetReply aFrame = false ∧ (sendingS [aFrame] []).link.replies = aFrame :: [] ∧
      ((sendingS [] []).link.replies = [] ∧ (sendingS [] []).link.notices = []) ∧
      (sendingS [] [.event 11 anEvent]).link.notices = .event 11 anEvent :: [] ∧
      (sendingS [] [.progress aProgress]).link.notices = .progress aProgress :: [] := by decide +kernel

theorem witness_ResetRequestRunsToItsReply :
    asked 0x02#8 7 [] idleS ∧
    (let s : State := { idleS with link := { idleS.link with resetting := true, sending := some ⟨0x82#8, 7, [0x00#8]⟩ } }
     s.operating = true ∧ s.link.resetting = true ∧ s.link.sending = some ⟨0x82#8, 7, [0x00#8]⟩) ∧
    (Instr.status 1 []).request = some (0x01#8, 1, []) := by decide +kernel

theorem witness_MalformedRequestsAreAnswered :
    (isRequestKind 0x52#8 = false ∧ asked 0x52#8 1 [] idleS) ∧ (isRequestKind 0xF0#8 = false ∧ (0xF0#8).msb = true) ∧
    ((Instr.segAppend 1 (List.replicate 209 0)).request = some (0x30#8, 1, List.replicate 209 0) ∧
      permittedLength 0x30#8 (List.replicate 209 (0 : Byte)).length = false ∧ asked 0x30#8 1 (List.replicate 209 0) idleS) ∧
    (∀ k t p, Instr.segAppend 1 (List.replicate 209 0) ≠ .unknownKindRequest k t p) :=
  ⟨by decide +kernel, by decide +kernel, by decide +kernel, fun _ _ _ h => Instr.noConfusion h⟩

theorem witness_StatusReportsTheState : asked 0x01#8 1 [] cuttingS := by decide +kernel

def limLow : Limits :=
  { feedCeil := 1, retraceCeil := 1000, jetCeil := 0, annealCeil := 0, rapidCeil := 1, attemptCeil := 1 }
def limHigh : Limits :=
  { feedCeil := 400, retraceCeil := 50000, jetCeil := 7, annealCeil := 2000, rapidCeil := 3000, attemptCeil := 15 }
def inLimits (l : Limits) : Prop :=
  (1 ≤ l.feedCeil ∧ l.feedCeil ≤ 400) ∧ (1000 ≤ l.retraceCeil ∧ l.retraceCeil ≤ 50000) ∧ l.jetCeil ≤ 7 ∧
    l.annealCeil ≤ 2000 ∧ (1 ≤ l.rapidCeil ∧ l.rapidCeil ≤ 3000) ∧ (1 ≤ l.attemptCeil ∧ l.attemptCeil ≤ 15)

theorem witness_LimitsWriteReclamps :
    (limLow.encode.length = 10 ∧ asked 0x10#8 1 limLow.encode limitedS ∧ limitedS.limits.isSome = true) ∧
    (asked 0x10#8 1 limLow.encode idleS ∧ idleS.limits = none ∧ inLimits (parseLimits limLow.encode) ∧
      inLimits (parseLimits limHigh.encode)) ∧
    ((List.replicate 10 (0 : Byte)).length = 10 ∧ asked 0x10#8 1 (List.replicate 10 0) idleS ∧
      ¬ inLimits (parseLimits (List.replicate 10 0))) := by
  unfold inLimits; decide +kernel

theorem witness_GetRequestsAnswerWhatIsStored :
    asked 0x11#8 1 [] limitedS ∧ limitedS.limits = some lim ∧ asked 0x11#8 1 [] idleS ∧ idleS.limits = none ∧
      (asked 0x19#8 1 [7#8] idleS ∧ (7#8).toNat = (7 : ClassIx).val ∧ asked 0x19#8 1 [8#8] idleS ∧ 8 ≤ (8#8).toNat) ∧
      (asked 0x1B#8 1 [3#8] idleS ∧ (3#8).toNat = (3 : Fin 4).val ∧ asked 0x1B#8 1 [4#8] idleS ∧ 4 ≤ (4#8).toNat) ∧
      asked 0x49#8 1 [3#8] idleS ∧ asked 0x49#8 1 [4#8] idleS := by decide +kernel

theorem witness_HeartbeatExpiryPausesTheJob :
    let beats (s : State) : State := { s with link := { s.link with heartbeat := some 100 } }
    ((beats cuttingS).operating = true ∧ (beats cuttingS).link.heartbeat.isSome = true ∧ (beats cuttingS).quiet ∧
      (beats cuttingS).job.state = .running ∧ (beats cuttingS).onlyPauses Event.linkSilent = true) ∧
    ((beats idleS).operating = true ∧ (beats idleS).link.heartbeat.isSome = true ∧ (beats idleS).quiet ∧
      idleS.inert Event.linkSilent = true) := by decide +kernel

/-- Index 7 and 8; the largest record and one beyond it; a cap above and at F_CEIL; overrides 150 and 151. -/
theorem witness_ServoSettingsAreStored :
    let big : FeedClass := { cap := 400, accel := 100, retract := 400, energy := 15, theta := 2000 }
    let sent (i : Byte) (c : FeedClass) : List Byte := i :: c.encode
    let ok (c : FeedClass) : Prop :=
      (1 ≤ c.cap ∧ c.cap ≤ 400) ∧ (1 ≤ c.accel ∧ c.accel ≤ 100) ∧ (1 ≤ c.retract ∧ c.retract ≤ 400) ∧ c.energy ≤ 15 ∧
        c.theta ≤ 2000
    ((sent 7 big).length = 9 ∧ asked 0x18#8 1 (sent 7 big) limitedS ∧ byteAt (sent 7 big) 0 = (7 : ClassIx).val ∧
      ok (parseFeedClass (sent 7 big) 1) ∧ lim.feedCeil < (parseFeedClass (sent 7 big) 1).cap) ∧
    (let c : FeedClass := { big with cap := 200 }
     asked 0x18#8 1 (sent 0 c) limitedS ∧ ok (parseFeedClass (sent 0 c) 1) ∧ (parseFeedClass (sent 0 c) 1).cap ≤ lim.feedCeil) ∧
    (asked 0x18#8 1 (sent 8 big) idleS ∧ 8 ≤ byteAt (sent 8 big) 0) ∧
    (let c : FeedClass := { big with theta := 2001 }
     asked 0x18#8 1 (sent 0 c) idleS ∧ ¬ ok (parseFeedClass (sent 0 c) 1)) ∧
    (asked 0x1C#8 1 [150#8] idleS ∧ (150#8).toNat ≤ 150 ∧ asked 0x1C#8 1 [151#8] idleS ∧ 150 < (151#8).toNat) := by
  decide +kernel

theorem witness_ThreadProfileIsStored :
    let full : Profile := { Profile.default with offsets := List.replicate 9 ⟨-2001, 2001⟩ }
    let wrong : Profile := { Profile.default with trim := 19 }
    ((3#8 :: full.encode).length = 15 + 4 * 9 ∧ asked 0x1A#8 1 (3#8 :: full.encode) limitedS ∧
      byteAt (3#8 :: full.encode) 0 = (3 : Fin 4).val ∧ (parseProfile (3#8 :: full.encode) 1 9).valid = true ∧
      limitedS.limits = some lim) ∧
    ((0#8 :: Profile.default.encode).length = 15 + 4 * 1 ∧ asked 0x1A#8 1 (0#8 :: Profile.default.encode) idleS ∧
      (parseProfile (0#8 :: Profile.default.encode) 1 1).valid = true ∧ idleS.limits = none) ∧
    (asked 0x1A#8 1 (4#8 :: full.encode) idleS ∧ 4 ≤ byteAt (4#8 :: full.encode) 0) ∧
    (asked 0x1A#8 1 (0#8 :: wrong.encode) idleS ∧ ¬ (20 ≤ (parseProfile (0#8 :: wrong.encode) 1 1).trim)) := by decide +kernel

theorem witness_RecordsReadBackAsWritten :
    limHigh.valid = true ∧ limLow.valid = true ∧ FeedClass.default.valid = true ∧ Profile.default.valid = true ∧
      (∀ o ∈ Profile.default.offsets, -32768 ≤ o.x ∧ o.x ≤ 32767 ∧ -32768 ≤ o.y ∧ o.y ≤ 32767) ∧
      (let p : JobParams := { JobParams.default with heartbeat := 100 }
       (1000 ≤ p.retrace ∧ p.retrace ≤ 50000) ∧ (1 ≤ p.drySpeed ∧ p.drySpeed ≤ 2000) ∧
         (1 ≤ p.rapidSpeed ∧ p.rapidSpeed ≤ 3000) ∧ (100 ≤ p.clampWait ∧ p.clampWait ≤ 10000) ∧
         (1 ≤ p.breakLimit ∧ p.breakLimit ≤ 15) ∧ (p.heartbeat = 0 ∨ 100 ≤ p.heartbeat ∧ p.heartbeat ≤ 5000) ∧
         (5 ≤ p.pacing ∧ p.pacing ≤ 1000)) := by decide +kernel

theorem witness_JobOpenStoresParameters :
    (asked 0x20#8 1 [] loadingS ∧ loadingS.job.state ≠ .idle) ∧
    (asked 0x20#8 1 [] idleS ∧ idleS.job.state = .idle ∧ idleS.limits = none) ∧
    (asked 0x20#8 1 [] limitedS ∧ limitedS.job.state = .idle ∧ limitedS.limits = some lim) ∧
    (asked 0x20#8 1 JobParams.default.encode limitedS ∧ JobParams.default.encode.length = 16 ∧
      parseJobParams JobParams.default.encode = some JobParams.default) ∧
    (asked 0x20#8 1 (List.replicate 16 0) limitedS ∧ parseJobParams (List.replicate 16 0) = none) := by decide +kernel

theorem witness_JobStartRunsAndSelects :
    (asked 0x21#8 1 [] limitedS ∧ limitedS.job.state ≠ .loading) ∧
    (asked 0x21#8 1 [] (jobIn .loading none limitedS) ∧ (jobIn .loading none limitedS).job.state = .loading ∧
      ∀ i, (jobIn .loading none limitedS).cavityIn i .planned = false) ∧
    (let s : State := { loadingS with pins := Pins.allLow }
     asked 0x21#8 1 [] s ∧ s.job.state = .loading ∧ (∃ i, s.cavityIn i .planned = true) ∧ s.pins.interlock = false) ∧
    (asked 0x21#8 1 [] loadingS ∧ loadingS.pins.interlock = true ∧ loadingS.interlock.latched = false ∧
      loadingS.job.active = none ∧ loadingS.engine.state = .idle ∧ loadingS.threading.state ≠ .sever ∧
      loadingS.threading.state ≠ .withdraw ∧ loadingS.sepQueue = [] ∧
      loadingS.runOrder.find? (fun j => loadingS.cavityIn j .planned) = some 5) ∧
    (loadingS.cavity 5 = some cav5 ∧ loadingS.engine.move = none ∧ loadingS.engine.commanded ≠ cav5.hole) ∧
    (let s : State := { loadingS with engine := { loadingS.engine with commanded := cav5.hole } }
     s.engine.commanded = cav5.hole ∧ s.threading.wireIn = false ∧ { s with threading := wireIn }.threading.wireIn = true) := by
  decide +kernel

theorem witness_JobPauseSuspendsTheBlocks :
    (asked 0x22#8 1 [] cuttingS ∧ cuttingS.job.state = .running) ∧ (asked 0x22#8 1 [] pausedS ∧ pausedS.job.state = .paused) ∧
    (asked 0x22#8 1 [] idleS ∧ idleS.job.state ≠ .running ∧ idleS.job.state ≠ .paused) ∧
    (let t := (threadingS .jet id).threading
     t.restart = none ∧ t.state ∈ [.anneal, .trim, .position, .jet, .tension]) ∧
    (let t := (threadingS .withdraw id).threading
     t.restart = none ∧ t.state = .withdraw) ∧
    (let t : Threading := { wireIn with state := .sever, sever := some ⟨.full, .withdraw, .machine, 5⟩ }
     t.restart = none ∧ t.state = .sever ∧ t.sever = some ⟨.full, .withdraw, .machine, 5⟩) ∧
    (wireIn.restart = none ∧ wireIn.state ∈ [.threaded, .idle, .failed]) ∧
    { wireIn with restart := some .attempt }.restart ≠ none := by decide +kernel

theorem witness_JobResumeRestartsTheBlocks :
    (asked 0x23#8 1 [] cuttingS ∧ cuttingS.job.state = .running) ∧
    (let s := pausedFor ⟨true, false, true, false⟩ (some 5) pausedS
     asked 0x23#8 1 [] s ∧ s.job.state = .paused ∧ s.job.reasons.interlock = true) ∧
    (asked 0x23#8 1 [] idleS ∧ idleS.job.state ∈ [.idle, .loading, .halted, .complete]) ∧
    (asked 0x23#8 1 [] pausedS ∧ pausedS.job.state = .paused ∧ pausedS.job.reasons.interlock = false ∧
      pausedS.engine.state = .paused ∧ pausedS.engine.resume = some .cutting ∧ pausedS.completedInPause = none ∧
      pausedS.atHold = false ∧ pausedS.threading.restart = none ∧ pausedS.threading.deferred = none ∧
      pausedS.recovery.startPending = false) := by decide +kernel

def clampedS (c : Clamp) (s : State) : State := { s with retention := { clamp := c, clampReq := true, timer := none } }

theorem witness_JobAbortHaltsTheJob :
    ((ask 0x24#8 1 [] cuttingS).decides 0x24#8 1 [] = true ∧ cuttingS.raised = [] ∧ cuttingS.job.state = .running ∧
      cuttingS.job.active = some 5 ∧ cuttingS.cavity 5 = some cutting5 ∧ cuttingS.job.active ≠ some 6) ∧
    pausedS.job.state = .paused ∧ (clampedS (.held 5) cuttingS).retention.clamp = .held 5 ∧
    (clampedS (.requested 5) cuttingS).retention.clamp = .requested 5 ∧
    ((ask 0x24#8 1 [] idleS).decides 0x24#8 1 [] = true ∧ idleS.job.state ≠ .running ∧ idleS.job.state ≠ .paused) := by
  decide +kernel

theorem witness_JobClearEmptiesTheJob :
    (asked 0x25#8 1 [] cuttingS ∧ cuttingS.job.state ∈ [.idle, .running, .paused]) ∧
    (asked 0x25#8 1 [] (clampedS (.held 5) loadingS) ∧ (clampedS (.held 5) loadingS).retention.clamp ≠ .free) ∧
    (asked 0x25#8 1 [] loadingS ∧ loadingS.job.state ∈ [.loading, .complete, .halted] ∧ loadingS.retention.clamp = .free) := by
  decide +kernel

/-- A cavity plan at the ends of its ranges. -/
def plan (id profile method count cls : Nat) (x y : Int) : List Byte :=
  enc8 id ++ enc32 9 ++ encS32 x ++ encS32 y ++ enc8 profile ++ enc8 method ++ enc8 count ++ enc8 cls

theorem witness_CavityPlanAddsARecord :
    let ok (p : List Byte) : Prop :=
      byteAt p 0 ≤ 63 ∧ byteAt p 13 ≤ 3 ∧ byteAt p 14 ≤ 2 ∧ 1 ≤ byteAt p 15 ∧ byteAt p 15 ≤ 4 ∧ byteAt p 16 ≤ 7
    let placed (p : List Byte) : Prop :=
      -8388608 ≤ s32At p 5 ∧ s32At p 5 ≤ 8388607 ∧ -8388608 ≤ s32At p 9 ∧ s32At p 9 ≤ 8388607
    let p := plan 63 3 2 4 7 (-8388608) 8388607
    let full : State := { loadingS with cavities := Vector.replicate 64 (some cav5) }
    (p.length = 17 ∧ asked 0x28#8 1 p loadingS ∧ loadingS.job.state ∈ [.loading, .running, .paused] ∧ ok p ∧ placed p ∧
      (∃ j, loadingS.cavity j = none) ∧ byteAt p 0 = (63 : CavityId).val ∧ loadingS.cavity 63 = none) ∧
    (asked 0x28#8 1 p idleS ∧ ¬ idleS.job.state ∈ [.loading, .running, .paused]) ∧
    (asked 0x28#8 1 (plan 0 0 0 5 0 0 0) loadingS ∧ ¬ ok (plan 0 0 0 5 0 0 0)) ∧
    (asked 0x28#8 1 (plan 0 0 0 1 0 0 8388608) loadingS ∧ ok (plan 0 0 0 1 0 0 8388608) ∧ ¬ placed (plan 0 0 0 1 0 0 8388608)) ∧
    (asked 0x28#8 1 p full ∧ ∀ i, (full.cavity i).isSome = true) ∧
    (asked 0x28#8 1 (plan 5 0 0 1 0 0 0) loadingS ∧ (loadingS.cavity 5).isSome = true) := by decide +kernel

theorem witness_CavityMoveReorders :
    (asked 0x29#8 1 [64#8, 0#8] loadingS ∧ ∀ k : CavityId, (64#8).toNat = k.val → loadingS.cavity k = none) ∧
    (asked 0x29#8 1 [5#8, 255#8] loadingS ∧ (5#8).toNat = (5 : CavityId).val ∧ loadingS.cavity 5 = some cav5 ∧
      cav5.state = .planned) ∧
    (asked 0x29#8 1 [5#8, 0#8] cuttingS ∧ cuttingS.cavity 5 = some cutting5 ∧ cutting5.state ≠ .planned) ∧
    (0 ≤ ([] : List CavityId).length ∧ ([] : List CavityId).length ≤ 0) := by decide +kernel

def retainedS : State := { jobIn .running none (holding retained5 limitedS) with engine := { State.reset.engine with state := .starved } }

theorem witness_AbandonEndsWaitingCavity :
    (asked 0x2A#8 1 [64#8] loadingS ∧ ∀ k : CavityId, (64#8).toNat = k.val → loadingS.cavity k = none) ∧
    (let d : Cavity := { cav5 with state := .done }
     asked 0x2A#8 1 [5#8] (holding d limitedS) ∧ (holding d limitedS).cavity 5 = some d ∧ d.state ∈ [.done, .faulted, .skipped]) ∧
    (asked 0x2A#8 1 [5#8] loadingS ∧ loadingS.cavity 5 = some cav5 ∧ cav5.state = .planned ∧ loadingS.job.active ≠ some 5) ∧
    (asked 0x2A#8 1 [5#8] retainedS ∧ retainedS.cavity 5 = some retained5 ∧ retained5.state = .retained ∧
      retainedS.job.active ≠ some 5 ∧ retainedS.retention.clamp ≠ .requested 5) := by decide +kernel

theorem witness_AbandonEndsActiveCavity :
    let severing : State := { cuttingS with threading := { wireIn with state := .sever, sever := some ⟨.full, .pulse, .lastPass, 5⟩ } }
    let paused (s : State) : State := pausedFor ⟨true, false, false, false⟩ (some 5) s
    ((ask 0x2A#8 1 [5#8] cuttingS).decides 0x2A#8 1 [5#8] = true ∧ (5#8).toNat = (5 : CavityId).val ∧
      cuttingS.cavity 5 = some cutting5 ∧ cutting5.state.isActive = true ∧ cuttingS.job.active = some 5 ∧
      cuttingS.threading.state ≠ .sever ∧ cuttingS.threading.wireIn = true ∧ cuttingS.job.state ≠ .paused) ∧
    (pausedS.threading.wireIn = true ∧ pausedS.job.state = .paused ∧ pausedS.job.active = some 5) ∧
    severing.threading.state = .sever ∧
    ((threadingS .jet id).threading.state ∈ [.jet, .tension] ∧ (threadingS .jet id).threading.wireIn = false ∧
      (threadingS .jet id).job.state ≠ .paused ∧ (paused (threadingS .tension id)).job.state = .paused) ∧
    ((threadingS .anneal id).threading.state ∉ [.sever, .jet, .tension] ∧ (threadingS .anneal id).threading.wireIn = false) := by
  decide +kernel

/-- The record of a cavity with nothing absent. -/
def full5 : Cavity :=
  { cutting5 with effective := some .bridge, fault := some .geometry, bridgeLength := some 100000, sepSelected := true, breakCount := 2 }

/-- An id out of range, no record, a record with fields absent and with none absent, an active cavity's other pass. -/
theorem witness_CavityQueryReports :
    (asked 0x2B#8 1 [64#8] cuttingS ∧ 64 ≤ (64#8).toNat) ∧
    (asked 0x2B#8 1 [63#8] cuttingS ∧ (63#8).toNat = (63 : CavityId).val ∧ cuttingS.cavity 63 = none) ∧
    (asked 0x2B#8 1 [5#8] cuttingS ∧ cuttingS.cavity 5 = some cutting5 ∧ cutting5.fault = none ∧ cutting5.bridgeLength = none ∧
      cuttingS.job.active = some 5 ∧ cuttingS.engine.chain = some (.pass 0) ∧ cutting5.hole.inRange = true) ∧
    (asked 0x2B#8 1 [5#8] (holding full5 cuttingS) ∧ (holding full5 cuttingS).cavity 5 = some full5 ∧
      (holding full5 cuttingS).engine.chain ≠ some (.pass 1)) ∧
    (asked 0x2B#8 1 [5#8] retainedS ∧ retainedS.job.active ≠ some 5) := by decide +kernel

/-- Chapter 11.5, R178, R181: of the active cavity the present P and H at offset 38, the fault code at 22, the bridge length at 23. -/
theorem test_cavity_report_offsets :
    let d := (holding full5 cuttingS).cavityReport 5 full5
    [u32At d 38, u32At d 42, byteAt d 22, u32At d 23, byteAt d 27, byteAt d 28, byteAt d 29, u32At d 34] =
      [100000, 100000, 7, 100000, 1, 1, 3, 630000] := by decide +kernel

def completeS : State := jobIn .complete none (holding retained5 limitedS)

theorem witness_SeparateAndReleaseWork :
    ((asked 0x38#8 1 [5#8] loadingS ∧ loadingS.job.state ∈ [.idle, .loading, .halted]) ∧
      (asked 0x38#8 1 [64#8] retainedS ∧ retainedS.job.state ∈ [.running, .paused, .complete] ∧
        ∀ k : CavityId, (64#8).toNat = k.val → retainedS.cavity k = none) ∧
      (asked 0x38#8 1 [5#8] cuttingS ∧ cuttingS.cavity 5 = some cutting5 ∧ cutting5.state ≠ .retained)) ∧
    ((asked 0x38#8 1 [5#8] { completeS with pins := Pins.allLow } ∧ completeS.job.state = .complete ∧
        Pins.allLow.interlock = false) ∧
      (asked 0x38#8 1 [5#8] completeS ∧ completeS.cavity 5 = some retained5 ∧ retained5.state = .retained ∧
        completeS.pins.interlock = true ∧ completeS.interlock.latched = false ∧ 5 ∉ completeS.sepQueue) ∧
      (asked 0x38#8 1 [5#8] { retainedS with sepQueue := [5] } ∧ 5 ∈ [(5 : CavityId)] ∧ retainedS.job.state ≠ .complete) ∧
      (asked 0x38#8 1 [5#8] retainedS ∧ 5 ∉ retainedS.sepQueue)) ∧
    ((asked 0x39#8 1 [64#8] retainedS ∧ asked 0x39#8 1 [63#8] retainedS ∧ retainedS.cavity 63 = none) ∧
      (asked 0x39#8 1 [5#8] retainedS ∧ (retainedS.cavity 5).isSome = true ∧ retainedS.retention.clamp ≠ .held 5) ∧
      (asked 0x39#8 1 [5#8] (clampedS (.held 5) retainedS) ∧ (clampedS (.held 5) retainedS).retention.clamp = .held 5)) :=
  ⟨by decide +kernel, by decide +kernel, by decide +kernel⟩

theorem witness_AppendTakesRecordsInOrder :
    (appendLength rec6.length = true ∧ appendLength (13 * 16) = true ∧ asked 0x30#8 1 rec6 idleS ∧
      idleS.job.state ∈ [.idle, .halted, .complete]) ∧
    (asked 0x30#8 1 rec0 loadingS ∧ loadingS.job.state ∈ [.loading, .running, .paused]) ∧
    (match loadingS.appendOne (parseRecord rec0 0) with
     | .ok _ => true
     | .error _ => false) = true ∧
    (match loadingS.appendOne (parseRecord rec6 0) with
     | .ok _ => false
     | .error e => decide (e = .outOfOrder)) = true := by decide +kernel

/-- Pass 0 of a planned cavity: a record that is taken, one with a sequence that is not the next, one with both deltas zero, one
whose end lies one pu outside the plane. -/
theorem witness_PassRecordIsCheckedAndStored :
    let r := parseRecord rec0 0
    loadingS.raised = [] ∧ r.unused = false ∧ r.cavity = (5 : CavityId).val ∧ loadingS.cavity 5 = some cav5 ∧
      cav5.state.isFinal = false ∧ r.chain = (0 : PassIx).val ∧ (cav5.passes[(0 : PassIx)]).state ≠ .atHold ∧
      ¬ (loadingS.job.active = some 5 ∧ loadingS.engine.chain = some (.pass 0)) ∧
      loadingS.checkPlaced ⟨5, cav5, .pass 0⟩ r = none ∧
      loadingS.checkPlaced ⟨5, cav5, .pass 0⟩ { r with seq := 1 } = some .outOfOrder ∧
      loadingS.checkPlaced ⟨5, cav5, .pass 0⟩ { r with dy := 0 } = some .geometry ∧
      loadingS.checkPlaced ⟨5, { cav5 with hole := ⟨8388607, 0⟩ }, .pass 0⟩ { r with dx := 1 } = some .geometry ∧
      loadingS.checkPlaced ⟨5, cav5, .pass 2⟩ r = some .badField := by decide +kernel

theorem witness_ReviseReplacesFeedClass :
    let p (cav chain seq cls : Nat) : List Byte := enc8 cav ++ enc8 chain ++ enc16 seq ++ enc8 cls
    let rr : OwnedChain := { owner := 5, chain := { Chain.new 9 with segs := [seg 0 0 10 10 0 ⟨0, 0⟩], appended := 1, nextSeq := 1 } }
    let routed : State := { cuttingS with store := { cuttingS.store with reroute := some rr } }
    ((p 5 0 0 0).length = 5 ∧ asked 0x31#8 1 (p 5 0 0 0) idleS ∧ idleS.job.state ∈ [.idle, .halted, .complete]) ∧
    (asked 0x31#8 1 (p 5 0 5 8) cuttingS ∧ cuttingS.cavity 5 = some cutting5 ∧ cutting5.state.isFinal = false ∧
      8 ≤ byteAt (p 5 0 5 8) 4) ∧
    (asked 0x31#8 1 (p 5 5 5 0) cuttingS ∧ 5 ≤ byteAt (p 5 5 5 0) 1) ∧
    (asked 0x31#8 1 (p 5 2 5 0) cuttingS ∧ cutting5.passCount ≤ byteAt (p 5 2 5 0) 1 ∧ byteAt (p 5 2 5 0) 1 < 4) ∧
    (asked 0x31#8 1 (p 5 4 0 0) cuttingS ∧ cuttingS.rerouteOf 5 = none) ∧
    (asked 0x31#8 1 (p 5 0 7 0) cuttingS ∧ (cutting5.passes[(0 : PassIx)]).chain.nextSeq ≤ u16At (p 5 0 7 0) 2) ∧
    (asked 0x31#8 1 (p 5 0 4 0) cuttingS ∧ u16At (p 5 0 4 0) 2 < (cutting5.passes[(0 : PassIx)]).chain.nextSeq ∧
      ∀ g ∈ (cutting5.passes[(0 : PassIx)]).chain.segs, g.seq = 4 → g.state ≠ .queued) ∧
    (asked 0x31#8 1 (p 5 0 6 7) cuttingS ∧ byteAt (p 5 0 6 7) 4 = (7 : ClassIx).val ∧
      ∃ g ∈ (cutting5.passes[(0 : PassIx)]).chain.segs, g.seq = 6 ∧ g.state = .queued) ∧
    (asked 0x31#8 1 (p 5 4 0 1) routed ∧ routed.store.reroute = some rr ∧ rr.owner = 5 ∧ 0 < rr.chain.nextSeq ∧
      ∃ g ∈ rr.chain.segs, g.seq = 0 ∧ g.state = .queued) ∧
    (asked 0x31#8 1 (p 5 4 1 1) routed ∧ rr.chain.nextSeq ≤ u16At (p 5 4 1 1) 2) ∧
    (let gone : OwnedChain := { rr with chain := { rr.chain with segs := [], retired := 1 } }
     let s : State := { cuttingS with store := { cuttingS.store with reroute := some gone } }
     asked 0x31#8 1 (p 5 4 0 1) s ∧ 0 < gone.chain.nextSeq ∧ ∀ g ∈ gone.chain.segs, g.seq = 0 → g.state ≠ .queued) := by
  decide +kernel

/-- The NO_CAVITY clause: an id of 64 names no cavity. -/
theorem witness_ReviseReplacesFeedClass_noCavity :
    asked 0x31#8 1 [64#8, 0, 0, 0, 0] cuttingS ∧
      ∀ (i : CavityId) (c : Cavity), byteAt [64#8, 0, 0, 0, 0] 0 = i.val → cuttingS.cavity i = some c → c.state.isFinal = true :=
  ⟨by decide +kernel, fun i _ h => absurd i.isLt (by rw [← h]; decide)⟩

/-- Twenty CUT segments, sixteen of them within the depth; a chain in path order. -/
theorem witness_RetirementKeepsWindow :
    let c : Chain := { Chain.new 0 with segs := (List.range 20).map short, depth := 800, endOffset := 1000 }
    (∃ g ∈ c.segs, g.state = .cut ∧ g.endOffset + c.depth ≤ 1000) ∧
      (c.segs.filter fun g => decide (g.state = .cut ∧ 1000 < g.endOffset + c.depth)).length ≤ 16 ∧
      c.segs.Pairwise (fun a b => a.endOffset ≤ b.endOffset) := by decide +kernel

theorem witness_PathArithmeticIsExact :
    0 < seg1.len ∧ seg1.stop = ⟨seg1.start.x + seg1.dx, seg1.start.y + seg1.dy⟩ ∧ seg1.s0 ≤ 30000 ∧ 80000 ≤ seg1.endOffset := by
  decide +kernel

/-- Total 0; a fault latched before; a retract at 4·S = T with room 1 and with room 0. -/
theorem witness_WindowsThatDoNotAdvance :
    let s : State := servoS class4 5 3 none
    let near : State := { s with engine := { s.engine with p := 80001 } }
    let out : State := { s with engine := { s.engine with p := 80000 } }
    let latched : State := { s with genWatch := { timer := some 10, latch := true } }
    (s.operating = true ∧ s.raised = [] ∧ parseReport (report 0 0 0 0 0) = some ⟨0, 0, 0, 0, false⟩ ∧
      s.engine.state = .cutting ∧ s.engine.chain = some (.pass 0) ∧ s.activeChain = some (rough (cutting5.passes[(0 : PassIx)]).chain.segs) ∧
      s.segmentAtP = some (engaged seg2) ∧ (engaged seg2).mode = .cut) ∧
    (parseReport (report 1 1 1 1 1) = some ⟨1, 1, 1, 1, true⟩ ∧ latched.genWatch.latch = true) ∧
    (parseReport (report 0 750 0 250 0) = some ⟨0, 750, 0, 250, false⟩ ∧ 0 + 750 + 0 + 250 ≤ 4 * 250 ∧
      near.segmentAtP = some (engaged seg2) ∧ near.engine.floor < near.engine.p) ∧
    (out.segmentAtP = some (engaged seg2) ∧ out.engine.p ≤ out.engine.floor) := by decide +kernel

/-- A report just short of a retract; a chain in path order with the look-ahead nearest, and a mode boundary in it. -/
theorem witness_ForwardWindowFollowsServo :
    let s : State := servoS class4 5 3 none
    let c := (cutting5.passes[(0 : PassIx)]).chain
    (s.operating = true ∧ s.raised = [] ∧ parseReport (report 0 751 0 249 0) = some ⟨0, 751, 0, 249, false⟩ ∧
      s.engine.state = .cutting ∧ s.activeChain = some c ∧ s.segmentAtP = some (engaged seg2) ∧ (engaged seg2).mode = .cut ∧
      4 * 249 < 0 + 751 + 0 + 249) ∧
    (c.segs.Pairwise (fun a b => a.endOffset ≤ b.s0) ∧ (∀ x ∈ c.segs, 0 < x.len ∧ x.endOffset ≤ c.endOffset) ∧
      s.engine.p ≤ c.endOffset ∧ engaged seg2 ∈ c.segs ∧ (engaged seg2).state = .engaged ∧
      s.engine.p ≤ (engaged seg2).endOffset ∧ c.holdOffset = some 630000 ∧ s.holdApplies = true ∧ s.engine.p ≤ 630000 ∧
      ∃ x ∈ [engaged seg0, engaged seg1], x.state = .engaged ∧ x.mode ≠ (engaged seg0).mode ∧ (engaged seg0).s0 < x.s0) := by
  decide +kernel

/-- After a retract into the lead-in, with the segment beyond the mode boundary already in state CUT. -/
def backOffS : State :=
  let travelled (g : Segment) : Segment := { g with state := .cut }
  { cuttingS with
    cavities :=
      (holding { withPass .active (rough [travelled seg0, travelled seg1, engaged seg2]) cav5 with state := .cutting }
        idleS).cavities
    engine := { cutEngine with p := 29800, h := 80010, floor := 29000 } }

theorem witness_ForwardWindowFollowsServo_backOff :
    let g : Segment := { seg0 with state := .cut }
    let b : Segment := { seg1 with state := .cut }
    let c := rough [g, b, engaged seg2]
    backOffS.activeChain = some c ∧ backOffS.segmentAtP = some g ∧ c.segs.Pairwise (fun a b => a.endOffset ≤ b.s0) ∧
      (∀ x ∈ c.segs, 0 < x.len ∧ x.endOffset ≤ c.endOffset) ∧ backOffS.engine.p ≤ c.endOffset ∧
      (g.state = .cut ∧ ∃ x ∈ c.segs, x.state = .engaged ∧ backOffS.engine.p ≤ x.endOffset) ∧
      backOffS.engine.p ≤ g.endOffset ∧
      ((b.state = .cut ∧ g.mode = .dry) ∧ b.mode ≠ g.mode ∧ g.s0 < b.s0) := by decide +kernel

/-- R69, R153: the dry window's distance ends at the boundary of the bridge; R73: at the first ENGAGED segment of mode CUT. -/
theorem test_dry_window_after_retract :
    backOffS.distance (rough [{ seg0 with state := .cut }, { seg1 with state := .cut }, engaged seg2])
        { seg0 with state := .cut } =
      if Config.dryStopsAtCutState = true then 200 else 50200 := by
  have h : (fun x : Segment => Segment.boundsFrom { seg0 with state := .cut } x) = fun x =>
      x.state == .engaged || (x.state == .cut && Config.dryStopsAtCutState) := by
    funext x; simp [Segment.boundsFrom, seg0]
  simp only [State.distance, Chain.modeBoundary, congrFun h]
  generalize Config.dryStopsAtCutState = keep
  revert keep
  decide +kernel

def movingS (m : Move) (st : EngineState) : State :=
  { threadingS .position id with engine := { State.reset.engine with state := st, move := some m } }

theorem witness_DryAndRapidWindowsMove :
    let dry : State :=
      { cuttingS with
        cavities := (holding { withPass .active (rough [engaged seg0, engaged seg1]) cav5 with state := .cutting } idleS).cavities
        engine := { cutEngine with p := 0, h := 0, floor := 0 } }
    let r : Move := .rapid ⟨0, 0⟩ ⟨3000, 0⟩ 0 .position .idle
    (parseReport (report 0 0 0 0 0) = some ⟨0, 0, 0, 0, false⟩ ∧ dry.operating = true ∧ dry.raised = [] ∧
      dry.engine.state = .cutting ∧ dry.activeChain = some (rough [engaged seg0, engaged seg1]) ∧
      dry.segmentAtP = some (engaged seg0) ∧ (engaged seg0).mode = .dry) ∧
    ((movingS r .rapid).operating = true ∧ (movingS r .rapid).raised = [] ∧ (movingS r .rapid).engine.state = .rapid ∧
      (movingS r .rapid).engine.move = some r ∧ 0 + (movingS r .rapid).params.rapidSpeed < rapidLength ⟨0, 0⟩ ⟨3000, 0⟩) ∧
    (1500 ≤ rapidLength ⟨0, 0⟩ ⟨3000, 0⟩ ∧ rapidLength ⟨0, 0⟩ ⟨3000, 0⟩ ≤ 1500 + (movingS r .rapid).params.rapidSpeed) ∧
    (let s : State := { cuttingS with engine := { cutEngine with state := .rapid, move := some (.traverse 99499) } }
     s.engine.state = .rapid ∧ s.engine.move = some (.traverse 99499) ∧ s.engine.chain = some (.pass 0) ∧
       99499 + s.params.drySpeed < s.engine.p) := by decide +kernel

/-- Steps 0, 5 behind H, 5 past H, and one onto the starvation point of an open chain. -/
theorem witness_StepTakesEffectOnChain :
    let c := (cutting5.passes[(0 : PassIx)]).chain
    let behind : State := { cuttingS with engine := { cutEngine with p := 99995 } }
    let openChain : Chain := { rough [engaged seg2] with closed := false, holdOffset := none, endOffset := 280000, nextSeq := 3 }
    let starving : State :=
      { cuttingS with cavities := (holding { withPass .active openChain cav5 with state := .cutting } idleS).cavities }
    (cuttingS.engine.chain = some (.pass 0) ∧ cuttingS.activeChain = some c ∧ cuttingS.engine.p ≤ cuttingS.engine.h) ∧
    (behind.activeChain = some c ∧ behind.engine.p ≤ behind.engine.h ∧ behind.engine.p + 5 ≤ behind.engine.h ∧
      behind.engine.p + 5 ≠ c.endOffset ∧ (behind.holdApplies && decide (c.holdOffset = some (behind.engine.p + 5))) = false) ∧
    (cuttingS.engine.h < cuttingS.engine.p + 5 ∧ cuttingS.engine.p + 5 ≠ c.endOffset ∧
      (cuttingS.holdApplies && decide (c.holdOffset = some (cuttingS.engine.p + 5))) = false) ∧
    (starving.activeChain = some openChain ∧ starving.engine.p + 180000 = openChain.endOffset ∧ openChain.closed = false ∧
      (starving.holdApplies && decide (openChain.holdOffset = some (starving.engine.p + 180000))) = false) := by decide +kernel

theorem witness_RestingWindowsAndGeneratorWatch :
    let watching (l : Bool) (s : State) : State := { s with genWatch := { timer := some 10, latch := l } }
    (report 4095 0 0 0 1).length = 9 ∧
    (idleS.operating = true ∧ idleS.quiet ∧ parseReport (report 4095 0 0 0 1) = some ⟨4095, 0, 0, 0, true⟩ ∧
      idleS.engine.state ∈ [.idle, .starved, .clampWait, .paused, .broken] ∧ idleS.genWatch.latch = false ∧
      idleS.inert Event.genFault = true ∧ (watching true idleS).genWatch.latch = true) ∧
    (let s : State := { idleS with genWatch := { timer := none, latch := true } }
     s.operating = true ∧ s.quiet ∧ s.genWatch.timer = none) ∧
    ((watching true idleS).quiet ∧ (watching true idleS).genWatch.timer.isSome = true) ∧
    (idleS.genWatch.timer.isSome = true ∧ idleS.genWatch.latch = false) := by decide +kernel

theorem witness_DriveWatchTakesReplies :
    let msg (f : Byte) : List Byte := encS32 10 ++ encS32 (-10) ++ [f]
    let waiting (l : Bool) : State := { idleS with driveWatch := { timer := some 5, latch := l } }
    (idleS.operating = true ∧ idleS.quiet ∧ parseDriveReply (msg 0) = some ⟨⟨10, -10⟩, false, false⟩ ∧
      parseDriveReply (msg 3) = some ⟨⟨10, -10⟩, true, true⟩ ∧ parseDriveReply (msg 2) = some ⟨⟨10, -10⟩, false, true⟩ ∧
      idleS.driveWatch.latch = false ∧ idleS.inert Event.driveFault = true) ∧
    ((msg 0).length = 9 ∧ ([0#8] : List Byte).length ≠ 9) ∧ idleS.driveWatch.timer = none ∧
    ((waiting true).operating = true ∧ (waiting true).quiet ∧ (waiting true).driveWatch.timer.isSome = true ∧
      (waiting true).driveWatch.latch = true ∧ (waiting false).driveWatch.latch = false) := by decide +kernel

/-- R180: positions outside the plane are taken as its nearer limit. -/
theorem test_drive_reply_is_limited :
    parseDriveReply (encS32 2147483647 ++ encS32 (-2147483648) ++ [0x02#8]) =
      some ⟨⟨8388607, -8388608⟩, false, true⟩ := by decide +kernel

def pacedS (retired : Nat) : State :=
  { cuttingS with
    cavities :=
      (holding
        { cutting5 with
          passes := cutting5.passes.set 0
            { cutting5.passes[(0 : PassIx)] with
              chain := { (cutting5.passes[(0 : PassIx)]).chain with retired := retired } } } idleS).cavities
    store := { cuttingS.store with pacing := some 50 } }

/-- No count differs; the active chain's differs, with and without a queued notice; a waiting cavity's differs. -/
theorem witness_PacingTimerOffersProgress :
    ((pacedS 0).operating = true ∧ (pacedS 0).quiet ∧ (pacedS 0).store.pacing.isSome = true) ∧
    (∀ c, (pacedS 0).activeChain = some c → decide (c.retired = c.reported) = true) ∧
    (∀ (i : CavityId), ∀ c, (pacedS 0).cavity i = some c →
      decide (∀ k : PassIx, (c.passes[k]).chain.retired = (c.passes[k]).chain.reported) = true) ∧
    (pacedS 0).store.separation = none ∧
    ((pacedS 2).quiet ∧ (pacedS 2).engine.chain = some (.pass 0) ∧ (pacedS 2).job.active = some 5 ∧
      ((pacedS 2).activeChain.map fun c => (c.retired, c.reported)) = some (2, 0)) ∧
    (∃ old, Notice.progress old ∈ [Notice.progress aProgress]) ∧ (∀ old, Notice.progress old ∉ (pacedS 2).link.notices) ∧
    (let s : State := { pacedS 2 with job := { (pacedS 2).job with active := none }, engine := State.reset.engine, pins := Pins.allLow
                                      threading := { wireIn with state := .sever } }
     s.quiet ∧ s.activeChain = none ∧ s.job.active ≠ some 5 ∧
       ((s.cavity 5).map fun c => decide ((c.passes[(0 : PassIx)]).chain.retired ≠ (c.passes[(0 : PassIx)]).chain.reported)) =
         some true ∧
       ∀ j : CavityId, j < 5 → s.cavity j = none) :=
  ⟨by decide +kernel, forall_of_all (by decide +kernel), fun i => forall_of_all (by revert i; decide +kernel),
    by decide +kernel, by decide +kernel, ⟨aProgress, by simp⟩, (fun _ h => by cases h), by decide +kernel⟩

theorem witness_AttemptStepsFollow :
    let w : Attempting := { purpose := .cutting, target := ⟨1000000, 2000000⟩, attempt := 1, cavity := 5 }
    let s := threadingS .anneal id
    let wait := threadingS .trim fun t => { t with homeWait := true }
    (s.operating = true ∧ s.quiet ∧ s.threading.restart = none ∧ s.threading.work = some w ∧ s.threading.sever = none ∧
      s.threading.state = .anneal) ∧
    ((threadingS .trim id).quiet ∧ (threadingS .trim id).threading.state = .trim ∧
      (threadingS .trim id).threading.homeWait = false ∧ (threadingS .trim id).engine.move = none ∧
      (threadingS .trim id).engine.state ≠ .rapid) ∧
    (wait.threading.state = .trim ∧ wait.threading.homeWait = true ∧ wait.engine.move = none ∧ wait.engine.state ≠ .rapid ∧
      wait.inert Event.cutterHome = true) ∧
    ((threadingS .jet id).threading.state = .jet ∧ (threadingS .jet id).inert Event.passSense = true) := by decide +kernel

/-- A threading begun with the wire out, and for a HOLE and a KERF purpose with it in. -/
theorem witness_AttemptStepsFollow_begun :
    (threadingS .idle id).cavity 5 = some { cav5 with state := .threading, attemptsUsed := 1 } ∧
    (threadingS .idle id).threading.wireIn = false ∧ (threadingS .idle fun _ => wireIn).threading.wireIn = true ∧
    Purpose.recovery ≠ .kerf := by decide +kernel

/-- Every profile with anneal time 0. -/
def noAnneal (s : State) : State := { s with profiles := Vector.replicate 4 { Profile.default with anneal := 0 } }

/-- R108: with anneal time 0 the attempt begins at TRIM, ANNEAL never on. -/
theorem test_anneal_time_zero :
    let t := ((noAnneal (threadingS .idle id)).beginThreading .cutting ⟨1000000, 2000000⟩ 5).threading
    (t.state, t.out.anneal, t.out.cutter, t.timer) = (.trim, false, true, some Profile.default.trim) := by decide +kernel

theorem witness_UnawaitedEdgesOnlyRaise :
    (idleS.operating = true ∧ idleS.quiet ∧ idleS.threading.state ≠ .jet ∧ idleS.inert Event.passSense = true) ∧
    (idleS.threading.state ≠ .tension ∧ idleS.inert Event.tensionOk = true) ∧
    (idleS.threading.state ∉ [.trim, .sever] ∧ idleS.inert Event.cutterHome = true) ∧ idleS.threading.wireIn = false ∧
    idleS.threading.state ∈ [.idle, .position, .threaded, .failed] ∧
    (threadingS .jet fun t => { t with restart := some .attempt }).threading.restart ≠ none := by decide +kernel

/-- CUTTER_HOME in the trim pulse, in a SEVER's pulse and in its withdraw phase; a state in which none of the timers runs, and the
states next to those in which they do. -/
theorem witness_UnawaitedEdgesOnlyRaise_timers :
    ((threadingS .trim id).operating = true ∧ (threadingS .trim id).quiet ∧ (threadingS .trim id).threading.state = .trim ∧
      (threadingS .trim id).threading.homeWait = false ∧ (threadingS .trim id).inert Event.cutterHome = true) ∧
    (∀ ph ∈ [SeverPhase.pulse, .withdraw],
      let s : State := { cuttingS with engine := State.reset.engine, threading := { State.reset.threading with state := .sever, sever := some ⟨.full, ph, .lastPass, 5⟩ } }
      s.quiet ∧ s.threading.state = .sever ∧ s.threading.sever = some ⟨.full, ph, .lastPass, 5⟩ ∧ ph ≠ .homeWait ∧
        s.inert Event.cutterHome = true) ∧
    (∀ st ∈ [ThreadState.anneal, .trim, .jet, .tension, .withdraw],
      (threadingS st id).operating = true ∧ (threadingS st id).quiet ∧ (threadingS st id).threading.state = st) ∧
    ThreadState.jet ∉ [ThreadState.anneal, .trim, .sever, .tension, .withdraw] ∧ ThreadState.anneal ∉ [ThreadState.jet] := by
  decide +kernel

/-- Attempt 1 of 5; attempt 5 of 5; a kerf threading at its last attempt; the three ends of a withdraw. -/
theorem witness_FailedAttemptsWithdraw :
    let w (i : Nat) (p : Purpose) : Attempting := { purpose := p, target := ⟨1000000, 2000000⟩, attempt := i, cavity := 5 }
    let s (st : ThreadState) (i : Nat) (p : Purpose) : State := threadingS st fun t => { t with work := some (w i p) }
    let out (n : WithdrawThen) : State :=
      threadingS .withdraw fun t => { t with work := some (w 1 .cutting), withdraw := some { next := n, cavity := 5 } }
    ((s .jet 1 .cutting).operating = true ∧ (s .jet 1 .cutting).quiet ∧ (s .jet 1 .cutting).threading.restart = none ∧
      (s .jet 1 .cutting).threading.work = some (w 1 .cutting) ∧ (s .jet 1 .cutting).threading.state = .jet ∧
      1 < ((s .jet 1 .cutting).profileOf 5).attempts ∧ (s .tension 1 .cutting).threading.state = .tension) ∧
    ((s .jet 5 .cutting).quiet ∧ ((s .jet 5 .cutting).profileOf 5).attempts ≤ 5 ∧
      (s .jet 5 .cutting).params.faultPolicy = .skip ∧ (s .jet 5 .cutting).job.active = some 5 ∧
      ((s .jet 5 .cutting).cavity 5).isSome = true) ∧
    ((s .jet 2 .kerf).quiet ∧ ((s .jet 2 .kerf).profileOf 5).kerfAttempts ≤ 2) ∧
    ((out .nextAttempt).quiet ∧ (out .nextAttempt).threading.state = .withdraw ∧
      (out .nextAttempt).threading.withdraw = some { next := .nextAttempt, cavity := 5 } ∧
      (out .nextAttempt).threading.work = some (w 1 .cutting) ∧ (out .nextAttempt).recovery.stage ≠ .toHole ∧
      (out .nextAttempt).job.active = some 5) ∧
    (out .failed).threading.withdraw = some { next := .failed, cavity := 5 } ∧
    (out .idle).threading.withdraw = some { next := .idle, cavity := 5 } := by decide +kernel

def severS (f : SeverForm) (ph : SeverPhase) (p : SeverFor) : State :=
  { cuttingS with
    engine := { State.reset.engine with commanded := ⟨1040000, 2060000⟩ }
    threading := { State.reset.threading with state := .sever, sever := some ⟨f, ph, p, 5⟩ } }

theorem witness_SeverRunsItsPhases :
    let s := severS .full .pulse .machine
    (s.operating = true ∧ s.quiet ∧ s.threading.state = .sever ∧ s.threading.restart = none ∧
      s.threading.sever = some ⟨.full, .pulse, .machine, 5⟩) ∧
    ((severS .stub .pulse .machine).quiet ∧
      (severS .stub .pulse .machine).threading.sever = some ⟨.stub, .pulse, .machine, 5⟩) ∧
    ((severS .full .homeWait .lastPass).quiet ∧ (severS .full .homeWait .lastPass).inert Event.cutterHome = true) ∧
    ((severS .full .withdraw .lastPass).cavity 5 = some cutting5 ∧ (severS .full .withdraw .lastPass).job.active = some 5 ∧
      (severS .full .withdraw .lastPass).threading.sever = some ⟨.full, .withdraw, .lastPass, 5⟩ ∧
      cutting5.effective ≠ some .bridge ∧ { cutting5 with effective := some .bridge }.effective = some .bridge) ∧
    (severS .full .withdraw .separation).threading.sever = some ⟨.full, .withdraw, .separation, 5⟩ := by decide +kernel

/-- With nothing appended, and with the whole rough pass appended. -/
theorem witness_TensionEndsThreading :
    let w : Attempting := { purpose := .cutting, target := ⟨1000000, 2000000⟩, attempt := 1, cavity := 5 }
    let s := threadingS .tension id
    let c := withPass .notStarted (rough [seg0, seg1, seg2, seg3, seg4, seg5, seg6]) cav5
    (s.operating = true ∧ s.quiet ∧ s.threading.state = .tension ∧ s.threading.restart = none ∧ s.threading.work = some w ∧
      s.job.active = some 5 ∧ s.cavity 5 = some { cav5 with state := .threading, attemptsUsed := 1 } ∧
      s.engine.commanded = cav5.hole ∧ (cav5.passes[(0 : PassIx)]).chain.appended = 0) ∧
    (0 < (c.passes[(0 : PassIx)]).chain.appended ∧ (c.passes[(0 : PassIx)]).chain.holdOffset ≠ some 0) ∧
    (cuttingS.operating = true ∧ cuttingS.quiet ∧ cuttingS.threading.wireIn = true) := by decide +kernel

theorem witness_FirstBreakBeginsRecovery :
    let late : Cavity := { cutting5 with breakCount := 4 }
    let s : State := { cuttingS with cavities := (holding late idleS).cavities }
    let policy : State := { cuttingS with job := { cuttingS.job with params := some { JobParams.default with resumePolicy := .atSegmentStart } } }
    (cuttingS.threading.wireIn = true ∧ cuttingS.job.active = some 5 ∧ cuttingS.cavity 5 = some cutting5 ∧
      cutting5.state = .cutting ∧ cuttingS.engine.chain = some (.pass 0) ∧
      cutting5.breakCount + 1 < cuttingS.params.breakLimit ∧ cuttingS.job.state = .running ∧
      (cutting5.passes[(0 : PassIx)]).state = .active ∧ cuttingS.engine.state ≠ .clampWait ∧ cuttingS.engine.state ≠ .paused ∧
      cuttingS.params.resumePolicy = .atBreak) ∧
    (policy.params.resumePolicy = .atSegmentStart ∧
      (cutting5.passes[(0 : PassIx)]).chain.containing policy.engine.p = some (engaged seg2)) ∧
    (pausedS.job.state = .paused ∧ pausedS.cavity 5 = some cutting5 ∧ pausedS.threading.wireIn = true ∧
      pausedS.engine.chain = some (.pass 0) ∧ pausedS.engine.resume ≠ some .clampWait) ∧
    ({ s with job := { s.job with params := some { JobParams.default with faultPolicy := .halt } } }.params.faultPolicy = .halt ∧
      (Chain.new 0).containing 0 = none) ∧
    (s.cavity 5 = some late ∧ late.state = .cutting ∧ s.params.breakLimit ≤ late.breakCount + 1 ∧
      s.params.faultPolicy = .skip ∧ s.job.state = .running ∧ s.threading.state ≠ .sever) ∧
    (idleS.threading.wireIn = false ∧ idleS.job.active = none) := by decide +kernel

/-- Pass 0 appended up to its HOLD, still open, the engine waiting for the clamp at the hold. -/
def waiting5 : Cavity :=
  { withPass .active { rough [{ seg4 with state := .cut }, engaged seg5] with closed := false, appended := 6, nextSeq := 6 } cav5 with
    state := .cutting, planned := .clamp }

def clampWaitS : State :=
  { cuttingS with
    cavities := (holding waiting5 idleS).cavities
    engine := { cutEngine with state := .clampWait, p := 630000, h := 630000 }
    retention := { clamp := .requested 5, clampReq := true, timer := some 2000 } }

theorem witness_ClampSensorAndWait :
    (clampWaitS.operating = true ∧ clampWaitS.quiet ∧ clampWaitS.retention.clamp = .requested 5 ∧
      clampWaitS.cavity 5 = some waiting5 ∧ clampWaitS.engine.state = .clampWait ∧ clampWaitS.inert Event.clampOk = true) ∧
    (let s : State := { pausedS with cavities := clampWaitS.cavities, retention := { clamp := .requested 5, clampReq := true, timer := none }
                                     engine := { cutEngine with state := .paused, resume := some .clampWait } }
     s.operating = true ∧ s.quiet ∧ s.retention.clamp = .requested 5 ∧ s.cavity 5 = some waiting5 ∧ s.engine.state = .paused ∧
       s.engine.resume = some .clampWait ∧ s.inert Event.clampOk = true) ∧
    (idleS.operating = true ∧ idleS.quiet ∧ (∀ i, idleS.retention.clamp ≠ .requested i) ∧ idleS.inert Event.clampOk = true ∧
      (∀ i, idleS.retention.clamp ≠ .held i) ∧ idleS.retention.timer = none) ∧
    ((clampedS (.held 5) idleS).quiet ∧ (clampedS (.held 5) idleS).retention.clamp = .held 5 ∧
      (clampedS (.held 5) idleS).inert Event.clampLost = true) ∧
    (clampWaitS.retention.timer.isSome = true ∧ clampWaitS.job.active = some 5 ∧
      (waiting5.passes[(0 : PassIx)]).chain.closed = false ∧ (waiting5.passes[(0 : PassIx)]).chain.holdOffset = some 630000 ∧
      ∀ k : PassIx, k ≠ 0 → (waiting5.passes[k]).chain.appended = 0 ∧ (waiting5.passes[k]).chain.segs = []) := by decide +kernel

/-- A BRIDGE cavity at its hold, a CLAMP one with the sensor low and high, a skim pass at its hold. -/
theorem witness_HoldDecidesRetention :
    let s : State := { cuttingS with engine := { cutEngine with p := 630000, h := 630000 } }
    let cl : State := { s with cavities := (holding { cutting5 with planned := .clamp } idleS).cavities }
    let skim : Cavity := { cutting5 with passes := cutting5.passes.set 1 { state := .active, savedP := 0, savedH := 0, chain := skim1 } }
    let sk : State := { cuttingS with cavities := (holding skim idleS).cavities, engine := { cutEngine with chain := some (.pass 1) } }
    (s.job.active = some 5 ∧ s.cavity 5 = some cutting5 ∧ s.engine.chain = some (.pass 0) ∧ s.engine.state = .cutting ∧
      (cutting5.passes[(0 : PassIx)]).chain.holdOffset = some 630000 ∧ cutting5.planned = .bridge) ∧
    (cl.cavity 5 = some { cutting5 with planned := .clamp } ∧ cl.retention.clamp = .free ∧ cl.pins.clampSense = false ∧
      { pinsUp with clampSense := true }.clampSense = true) ∧
    (sk.cavity 5 = some skim ∧ sk.engine.chain = some (.pass 1) ∧ sk.engine.state = .cutting ∧
      (skim.passes[(1 : PassIx)]).chain.holdOffset = some 100000 ∧ (1 : PassIx) ≠ 0) := by decide +kernel

theorem witness_PassCompletes :
    cuttingS.job.active = some 5 ∧ cuttingS.cavity 5 = some cutting5 ∧ cuttingS.engine.chain = some (.pass 0) ∧
      (let s : State := { cuttingS with engine := { cutEngine with chain := some (.pass 1) } }
       s.engine.chain = some (.pass 1) ∧ cutting5.passCount ≤ (1 : PassIx).val + 1) := by decide +kernel

/-- A cavity of two passes, its skim chain as given. -/
def twoPass (effective : Option Method) (skim : Chain) : Cavity :=
  { cutting5 with
    passCount := 2, effective := effective
    passes := cutting5.passes.set 1 { state := .notStarted, savedP := 0, savedH := 0, chain := skim } }

def twoPassS (c : Cavity) (at_ : Point) : State :=
  { cuttingS with cavities := (holding c idleS).cavities, engine := { cutEngine with commanded := at_, prevStep := 3, run := 2 } }

/-- The next pass: off its origin; with nothing appended; with HOLD on sequence 0; and CUTTING at the CLOSE end point. -/
theorem witness_PassCompletes_next :
    let held : Cavity := twoPass (some .bridge) { skim1 with holdOffset := some 0 }
    let ch := (cutting5.passes[(0 : PassIx)]).chain
    (1 : PassIx).val = (0 : PassIx).val + 1 ∧ (1 : PassIx).val < held.passCount ∧ cutting5.planned = .bridge ∧
    (∀ c ∈ [held, twoPass (some .clamp) skim1, twoPass (some .clamp) (Chain.new 3)],
      (twoPassS c ch.endPoint).job.active = some 5 ∧ (twoPassS c ch.endPoint).cavity 5 = some c ∧
        (twoPassS c ch.endPoint).engine.chain = some (.pass 0) ∧ (twoPassS c ch.endPoint).engine.commanded = ch.endPoint) ∧
    ch.endPoint ≠ ch.holdPoint ∧ (Chain.new 3).appended = 0 ∧ 0 < skim1.appended ∧ skim1.holdOffset ≠ some 0 ∧
    (held.effective = some .bridge ∧ (held.passes[(1 : PassIx)]).chain.holdOffset = some 0) := by decide +kernel

/-- The skim pass starts where pass 0 closed, at P 0, in CUTTING (R80, R94). -/
theorem test_next_pass_starts :
    let s := twoPassS (twoPass (some .clamp) skim1) ⟨1040000, 2060000⟩
    ((s.nextPass 0).1.engine.state, (s.nextPass 0).1.engine.chain, (s.nextPass 0).1.engine.p, (s.nextPass 0).2) =
      (.cutting, some (.pass 1), 0, false) := by decide +kernel

theorem witness_SeparationChainReversesBridge :
    retained5.separationSegs[1]? = some { seg1 with mode := .dry } ∧ 1 < retained5.leadIn.length ∧
      retained5.leadIn[1]? = some { seg1 with state := .leadIn } ∧ retained5.leadIn.length ≤ 2 ∧
      retained5.bridge.reverse[2 - retained5.leadIn.length]? = some { seg6 with state := .parked } ∧
      { seg6 with state := .parked }.state = .parked := by decide +kernel

def mapped (code : Code) (a : ActionSet) (s : State) : State :=
  { s with maps := { s.maps with mapA := s.maps.mapA.set code.val a } }

theorem witness_RaisedCodesAreHanded :
    (idleS.operating = true ∧ idleS.quiet ∧ idleS.inert Event.dielectricLow = true ∧ idleS.inert (extCode 7 false) = true) ∧
    (([64#8, 0#8, 0#8] : List Byte).length = 3 ∧ asked 0x43#8 1 [64#8, 0, 0] idleS ∧ 64 ≤ byteAt [64#8, 0, 0] 0) ∧
    (asked 0x43#8 1 [63#8, 255, 255] idleS ∧ byteAt [63#8, 255, 255] 0 = (63 : Code).val ∧ idleS.inert 63 = true) ∧
    (idleS.raised = [] ∧ pausedS.onlyPauses Event.linkSilent = true ∧ pausedS.job.state = .paused ∧
      cuttingS.onlyPauses Event.genFault = true ∧ cuttingS.job.state = .running) ∧
    (let s := mapped 40 0x08#32 cuttingS
     hasHalt (s.maps.entry s.maps.active 40) = true ∧ hasBreak (s.maps.entry s.maps.active 40) = false ∧ s.job.state = .running) ∧
    (let e := cuttingS.maps.entry cuttingS.maps.active Event.wireLost
     e.getLsbD 4 = true ∧ hasHalt e = false ∧ hasPause e = false) := by decide +kernel

theorem mask_bits (a : ActionSet) (h : a &&& ~~~actionMask = 0) :
    ∀ b : Nat, a.getLsbD b = true → b ∈ [0, 1, 2, 3, 4, 8, 9, 10, 11, 12, 13, 14, 15, 16, 17, 18, 19] := by
  intro b hb
  have hlt : b < 32 := by
    refine Nat.lt_of_not_le fun h => ?_
    rw [BitVec.getLsbD_of_ge _ _ h] at hb; cases hb
  have hm : (a &&& ~~~actionMask).getLsbD b = false := by rw [h]; simp
  simp only [BitVec.getLsbD_and, hb, Bool.true_and] at hm
  revert hm; clear hb h; revert b; decide

/-- SETn with CLRn; the active map and the other; map 2 and code 64. -/
theorem witness_MapRequestsWriteAndRead :
    let p (m c : Byte) (a : Nat) : List Byte := [m, c] ++ enc32 a
    let sent (l : List Byte) : ActionSet := BitVec.ofNat 32 (u32At l 2)
    ((p 2 0 0).length = 6 ∧ asked 0x40#8 1 (p 2 0 0) idleS ∧ 2 ≤ byteAt (p 2 0 0) 0 ∧ asked 0x40#8 1 (p 1 64 0) idleS ∧
      64 ≤ byteAt (p 1 64 0) 1) ∧
    (asked 0x40#8 1 (p 1 0 0x11000) idleS ∧
      ∃ n : Fin 4, (sent (p 1 0 0x11000)).getLsbD (12 + n.val) = true ∧ (sent (p 1 0 0x11000)).getLsbD (16 + n.val) = true) ∧
    (asked 0x40#8 1 (p 1 63 0xFFF1F) idleS ∧ asked 0x40#8 1 (p 0 63 0xF1F) idleS ∧ byteAt (p 1 63 0xFF1F) 0 = MapName.b.code ∧
      byteAt (p 1 63 0xFF1F) 1 = (63 : Code).val ∧
      ¬ (∃ n : Fin 4, (sent (p 1 63 0xFF1F)).getLsbD (12 + n.val) = true ∧ (sent (p 1 63 0xFF1F)).getLsbD (16 + n.val) = true) ∧
      MapName.b ≠ idleS.maps.active ∧ MapName.a = idleS.maps.active) ∧
    (∀ b : Nat, (sent (p 1 63 0xFF1F)).getLsbD b = true → b ∈ [0, 1, 2, 3, 4, 8, 9, 10, 11, 12, 13, 14, 15, 16, 17, 18, 19]) ∧
    (asked 0x41#8 1 [2, 0] idleS ∧ asked 0x41#8 1 [1, 64] idleS ∧ asked 0x41#8 1 [1, 63] idleS ∧ (1#8).toNat = MapName.b.code ∧
      (63#8).toNat = (63 : Code).val) :=
  ⟨by decide +kernel, by decide +kernel, by decide +kernel, mask_bits _ (by decide +kernel), by decide +kernel⟩

/-- An unused bit of an action set; a channel in each state other than the one its expiry belongs to. -/
theorem witness_OutputsAreConfigured_unused :
    (asked 0x40#8 1 ([1#8, 0] ++ enc32 0x20) idleS ∧ ([1#8, 0] ++ enc32 0x20).length = 6 ∧
      ∃ b : Nat, b ∉ [0, 1, 2, 3, 4, 8, 9, 10, 11, 12, 13, 14, 15, 16, 17, 18, 19] ∧
        BitVec.getLsbD (BitVec.ofNat 32 (u32At ([1#8, 0] ++ enc32 0x20) 2)) b = true) ∧
    (idleS.operating = true ∧ (idleS.channels[(3 : Fin 4)]).state ≠ .delaying ∧ (idleS.channels[(3 : Fin 4)]).state ≠ .active) ∧
    ((beacon.state = .idle → beacon.output = beacon.inForce.level false ∧ beacon.timer = none) ∧ beacon.state ≠ .delaying ∧
      beacon.state ≠ .active) :=
  ⟨⟨by decide +kernel, by decide, 5, by decide, by decide +kernel⟩, by decide +kernel, by decide +kernel⟩

theorem witness_ChannelsPulse :
    let busy (c : Channel) : State := { idleS with channels := Vector.replicate 4 c }
    ((busy beacon.trigger).operating = true ∧ ((busy beacon.trigger).channels[(0 : Fin 4)]).state = .delaying) ∧
    ((busy beacon.trigger.delayExpired).channels[(0 : Fin 4)]).state = .active ∧
    (beacon.state = .idle ∧ 0 < beacon.inForce.delay ∧ Channel.default.state = .idle ∧ Channel.default.inForce.delay = 0 ∧
      beacon.trigger.state ≠ .idle) ∧
    ((beacon.state = .idle → beacon.output = beacon.inForce.level false ∧ beacon.timer = none) ∧ beacon.state ≠ .delaying ∧
      beacon.state ≠ .active) := by decide +kernel

theorem witness_OutputsAreConfigured :
    let p (n : Nat) (w : Nat) (pol : Nat) : List Byte := enc8 n ++ enc16 0 ++ enc16 w ++ enc8 pol
    let busy : State := { idleS with channels := Vector.replicate 4 beacon.trigger }
    let swapped : State := { idleS with maps := { idleS.maps with active := .b } }
    ((p 4 1 0).length = 6 ∧ asked 0x48#8 1 (p 4 1 0) idleS ∧ 4 ≤ byteAt (p 4 1 0) 0 ∧ asked 0x48#8 1 (p 3 0 0) idleS ∧
      u16At (p 3 0 0) 3 = 0 ∧ asked 0x48#8 1 (p 3 1 2) idleS ∧ 2 ≤ byteAt (p 3 1 2) 5) ∧
    (asked 0x48#8 1 (p 3 1 1) idleS ∧ byteAt (p 3 1 1) 0 = (3 : Fin 4).val ∧ 0 < u16At (p 3 1 1) 3 ∧
      byteAt (p 3 1 1) 5 = Polarity.low.code ∧ (idleS.channels[(3 : Fin 4)]).state = .idle) ∧
    (asked 0x48#8 1 (p 3 1 1) busy ∧ (busy.channels[(3 : Fin 4)]).state ≠ .idle) ∧
    (asked 0x42#8 1 [] idleS ∧ idleS.maps.active = .a ∧ asked 0x42#8 1 [] swapped ∧ swapped.maps.active = .b) := by
  decide +kernel

theorem witness_InterlockFollowsInput_edges :
    let latch (s : State) : State := { s with interlock := { mode := .latch, latched := true } }
    (idleS.operating = true ∧ idleS.quiet ∧ idleS.job.state ∉ [.running, .paused] ∧ idleS.inert Event.interlockOpen = true) ∧
    (pausedS.quiet ∧ pausedS.job.state = .paused) ∧
    (cuttingS.quiet ∧ cuttingS.job.state = .running ∧ cuttingS.onlyPauses Event.interlockOpen = true) ∧
    ((latch idleS).quiet ∧ (latch idleS).interlock.mode = .latch ∧ (latch idleS).inert Event.interlockClosed = true) ∧
    (pausedS.interlock.mode = .follow ∧ pausedS.job.reasons.host = true ∧ pausedS.inert Event.interlockClosed = true) ∧
    (idleS.interlock.mode = .follow ∧ idleS.job.state ≠ .paused ∧ idleS.inert Event.interlockClosed = true) := by decide +kernel

theorem witness_InterlockFollowsInput_requests :
    let openS : State := { idleS with pins := Pins.allLow }
    let alone : State := pausedFor ⟨false, false, true, false⟩ (some 5) pausedS
    (asked 0x4C#8 1 [] openS ∧ openS.pins.interlock = false) ∧
    (asked 0x4C#8 1 [] idleS ∧ idleS.pins.interlock = true ∧ idleS.job.state ≠ .paused) ∧
    (asked 0x4C#8 1 [] pausedS ∧ pausedS.pins.interlock = true ∧ pausedS.job.state = .paused ∧ pausedS.job.reasons.host = true) ∧
    (asked 0x4C#8 1 [] alone ∧ alone.pins.interlock = true ∧ alone.job.reasons.host = false ∧
      alone.job.reasons.event = false ∧ alone.job.reasons.linkSilent = false) ∧
    (asked 0x4D#8 1 [0#8] cuttingS ∧ cuttingS.job.state ∉ [.idle, .loading]) ∧
    (asked 0x4D#8 1 [2#8] idleS ∧ idleS.job.state ∈ [.idle, .loading] ∧ 2 ≤ (2#8).toNat ∧ asked 0x4D#8 1 [0#8] idleS ∧
      asked 0x4D#8 1 [1#8] loadingS) := by decide +kernel

theorem witness_ClockLogAndQueuesKeepOrder :
    (asked 0x51#8 1 [0#8] idleS ∧ asked 0x51#8 1 [9#8] idleS ∧ 8 < (9#8).toNat ∧ asked 0x51#8 1 [8#8] idleS ∧
      1 ≤ (8#8).toNat ∧ (8#8).toNat ≤ 8) ∧
    (((List.range 255).map entry).length < 256 ∧
      (List.range 256).map entry = entry 0 :: entry 1 :: ((List.range 254).map fun n => entry (n + 2)) ∧
      ((List.range 256).map entry).length = 256) ∧
    ((enc32 1).length = 4 ∧ asked 0x50#8 1 (enc32 1) idleS ∧ idleS.operating = true) ∧
    (let q (n : Nat) : List Notice := List.replicate n (.event 11 anEvent)
     (q 15).length < 16 ∧ 16 ≤ (q 16).length ∧ q 1 ++ .progress aProgress :: q 2 = (q 1) ++ .progress aProgress :: (q 2)) := by
  decide +kernel

theorem witness_ClockLogAndQueuesKeepOrder_none :
    (∀ old, Notice.progress old ∉ [Notice.event 11 anEvent]) ∧
      (∀ old, Notice.progress old ∉ List.replicate 16 (Notice.event 11 anEvent)) ∧
      16 ≤ (List.replicate 16 (Notice.event 11 anEvent)).length := by
  refine ⟨fun old h => ?_, fun old h => ?_, by decide⟩
  · simp at h
  · exact absurd (List.eq_of_mem_replicate h) (by simp)

/-! ### Witnesses of the recovery, of the holds and of the separation -/

/-- Cavity 5 in BREAK_RECOVERY: its rough pass broke at P = 100,000, and resumes at 90,000. -/
def broken5 : Cavity := { cutting5 with state := .breakRecovery, breakCount := 1 }
def breakAt : PathPoint := { offset := 100000, pos := ⟨1060000, 2060000⟩ }
def resumeAt : PathPoint := { offset := 90000, pos := ⟨1050000, 2060000⟩ }

def recoveryS (st : Stage) (t : Threading) : State :=
  { jobIn .running (some 5) (holding broken5 limitedS) with
    engine := { cutEngine with state := .broken }, threading := t
    recovery :=
      { stage := st, breakPoint := some breakAt, resumePoint := some resumeAt, inKerf := 0, closePending := false
        startPending := false } }

/-- The same in a PAUSED job. -/
def recoveryPausedS (st : Stage) (t : Threading) : State := pausedFor ⟨true, false, false, false⟩ (some 5) (recoveryS st t)

/-- A reroute chain from the hole to the resume point, its CLOSE accepted. -/
def route5 : OwnedChain :=
  { owner := 5
    chain :=
      { Chain.new 9 with
        segs := [{ seg 0 0 (lengthOf 50000 60000) 50000 60000 ⟨1000000, 2000000⟩ with mode := .dry, close := true }]
        appended := 1, nextSeq := 1, closed := true, endOffset := lengthOf 50000 60000, endPoint := ⟨1050000, 2060000⟩ } }

def routed (s : State) : State := { s with store := { s.store with free := 2040, reroute := some route5, nextSerial := 10 } }

/-- The reroute chain runs, the pass's P and H saved. -/
def reroutingS : State :=
  { routed (recoveryS .reroute wireIn) with
    cavities :=
      (holding { broken5 with passes := broken5.passes.set 0 { broken5.passes[(0 : PassIx)] with savedP := 100000, savedH := 100000 } }
        idleS).cavities
    engine := { cutEngine with chain := some .reroute, p := 10, h := 10, floor := 0 } }

theorem witness_WholeFrameIsTaken_gathered :
    let f : Frame := ⟨0x01#8, 1#8, []⟩
    let s : State := { idleS with link := { idleS.link with framer := .collecting [0#8, 1#8], gapTimer := some 5 } }
    s.link.framer = .collecting [0#8, 1#8] ∧ f.bytes = 0xC3#8 :: ([0#8, 1#8] ++ f.bytes.drop 3) ∧ f.bytes.drop 3 ≠ [] ∧
      f.body ++ enc16 0 = [0#8, 1#8] ++ (1#8 :: enc16 0) := by decide +kernel

/-- The last byte of a STATUS frame whose check matches. -/
theorem witness_ReceivedByteMovesFramer_complete :
    let body : List Byte := [0#8, 1#8, 2#8]
    let g : List Byte := body ++ enc16 (crc16 body).toNat
    byteAt g 0 ≤ 250 ∧ g.length = byteAt g 0 + 5 ∧ crc16 (g.take (byteAt g 0 + 3)) = BitVec.ofNat 16 (u16At g (byteAt g 0 + 3)) := by
  decide +kernel

/-- A cut, the reroute chain, no chain, SEPARATING; the clamp in its three states; a break and a resume point. -/
theorem witness_StatusReportsTheState_fields :
    let sep : State := holding { retained5 with state := .separating } (jobIn .running (some 5) limitedS)
    asked 0x01#8 1 [] reroutingS ∧ asked 0x01#8 1 [] idleS ∧
      (cuttingS.job.active = some 5 ∧ cuttingS.cavity 5 = some cutting5 ∧ cutting5.state ≠ .separating ∧
        cuttingS.engine.chain = some (.pass 0) ∧ cuttingS.job.params = some JobParams.default) ∧
      (reroutingS.engine.chain = some .reroute ∧ reroutingS.recovery.breakPoint = some breakAt ∧
        reroutingS.recovery.resumePoint = some resumeAt ∧ -2 ^ 31 ≤ breakAt.pos.x ∧ breakAt.pos.x < 2 ^ 31) ∧
      (idleS.job.active = none ∧ idleS.engine.chain = none ∧ idleS.recovery.breakPoint = none ∧
        idleS.recovery.resumePoint = none ∧ idleS.job.params = none ∧ idleS.retention.clamp = .free ∧
        -2 ^ 31 ≤ idleS.engine.commanded.x ∧ idleS.engine.commanded.x < 2 ^ 31) ∧
      (sep.job.active = some 5 ∧ sep.cavity 5 = some { retained5 with state := .separating }) ∧
      (clampedS (.held 5) idleS).retention.clamp = .held 5 ∧ (clampedS (.requested 5) idleS).retention.clamp = .requested 5 := by
  decide +kernel

/-- A PAUSED job whose engine left a state, with a servo state to lose. -/
def pausedFrom (st : EngineState) : State :=
  { pausedS with engine := { cutEngine with state := .paused, resume := some st, prevStep := 7, run := 2, move := some (.traverse 99499) } }

/-- The last pass completed in the pause. -/
def completedS : State :=
  { pausedFrom .starved with
    cavities :=
      (holding { cutting5 with currentPass := 1, passes := cutting5.passes.set 1 { PassRec.new 1 with state := .complete } }
        idleS).cavities
    engine := { (pausedFrom .starved).engine with chain := some (.pass 1) } }

def pausedWaitS (sense : Bool) : State :=
  { clampedS (.requested 5) (pausedFrom .clampWait) with pins := { pinsUp with clampSense := sense } }

def pendingS (st : Stage) : State :=
  let s := recoveryPausedS st State.reset.threading
  { s with recovery := { s.recovery with startPending := true } }

theorem witness_JobResumeRestartsTheBlocks_engine :
    (∀ st ∈ [EngineState.rapid, .starved, .clampWait],
      asked 0x23#8 1 [] (pausedFrom st) ∧ (pausedFrom st).job.state = .paused ∧ (pausedFrom st).job.reasons.interlock = false ∧
        (pausedFrom st).threading.restart = none ∧ (pausedFrom st).threading.deferred = none ∧
        (pausedFrom st).engine.state = .paused ∧ (pausedFrom st).recovery.startPending = false ∧
        (pausedFrom st).engine.resume = some st ∧ (pausedFrom st).completedInPause = none) ∧
    (asked 0x23#8 1 [] completedS ∧ completedS.engine.resume = some .starved ∧ completedS.engine.chain = some (.pass 1) ∧
      completedS.job.active = some 5 ∧
      (completedS.cavity 5).map (fun c => ((c.passes[(1 : PassIx)]).state, c.passCount)) = some (.complete, 2)) ∧
    (∀ b, asked 0x23#8 1 [] (pausedWaitS b) ∧ (pausedWaitS b).engine.resume = some .clampWait ∧
      (pausedWaitS b).retention.clamp = .requested 5 ∧ (pausedWaitS b).pins.clampSense = b ∧
      (pausedWaitS b).cavity 5 = some cutting5) := by decide +kernel

theorem witness_JobResumeRestartsTheBlocks_pending :
    ∀ st ∈ [Stage.stubCut, .toHole, .reroute, .resuming],
      asked 0x23#8 1 [] (pendingS st) ∧ (pendingS st).job.state = .paused ∧ (pendingS st).job.reasons.interlock = false ∧
        (pendingS st).threading.restart = none ∧ (pendingS st).threading.deferred = none ∧ (pendingS st).engine.state = .broken ∧
        (pendingS st).recovery.startPending = true ∧ (pendingS st).recovery.stage = st ∧ (pendingS st).job.active = some 5 ∧
        (pendingS st).engine.move = none ∧ (pendingS st).engine.commanded ≠ (pendingS st).holeOf 5 := by decide +kernel

/-- R22, R66: a move resumed from PAUSED goes on with previous step 0, k 0 and no reference. -/
theorem test_resume_to_rapid_resets_servo :
    after (.jobResume 1 []) (ask 0x23#8 1 [] { pausedFrom .rapid with engine := { (pausedFrom .rapid).engine with reference := some ⟨1, 2, 3, 4⟩ } })
      (fun t => decide (t.engine.state = .rapid) && decide (t.engine.move = some (.traverse 99499)) && decide (t.engine.prevStep = 0) &&
        decide (t.engine.run = 0) && decide (t.engine.reference = none)) = true := by decide +kernel

/-- R124, R135: the move to the hole of a recovery whose pass completed in a pause goes on after a further pause. -/
theorem test_resume_continues_recovery_move :
    let s := recoveryPausedS .toHole State.reset.threading
    let done : Cavity := { broken5 with passes := broken5.passes.set 0 { broken5.passes[(0 : PassIx)] with state := .complete } }
    after (.jobResume 1 [])
      (ask 0x23#8 1 []
        { s with
          cavities := (holding done idleS).cavities
          engine := { cutEngine with state := .paused, resume := some .rapid, move := some (.rapid ⟨0, 0⟩ ⟨1000000, 2000000⟩ 9 .toHole .broken) } })
      (fun t => decide (t.engine.state = .rapid) && decide (t.recovery.stage = .toHole) &&
        decide (t.engine.move = some (.rapid ⟨0, 0⟩ ⟨1000000, 2000000⟩ 9 .toHole .broken))) = true := by decide +kernel

/-- R63, R68, R83: the report of a first fault is a window without discharge in CUTTING, and the pause of GEN_FAULT follows. -/
theorem test_first_fault_is_a_cut_window :
    after (.windowReport (report 10 10 10 10 1)) { cuttingS with engine := { cutEngine with prevStep := 7, run := 2 } }
      (fun t => decide (t.engine.state = .paused) && decide (t.engine.resume = some .cutting) && decide (t.engine.prevStep = 0) &&
        decide (t.engine.run = 0) && decide (t.engine.p = 100000) && decide (t.job.reasons = ⟨false, true, false, false⟩)) = true := by
  decide +kernel

/-! Records for a pass on the engine, for a pass AT_HOLD, and for the reroute chain. -/

/-- Sequence 6 of the example: the last 50,000 pu to the CLOSE. -/
def closing6 : SegRecord := parseRecord rec6 0

/-- The rough pass open after sequence 5. -/
def open5 : Chain :=
  { rough [engaged seg2, engaged seg3, engaged seg4, seg5] with
    appended := 6, nextSeq := 6, closed := false, endOffset := 730000, endPoint := ⟨1040000, 2110000⟩, bridgeCount := 1 }

def openS (c : Cavity) (e : Engine) : State :=
  { cuttingS with cavities := (holding { c with state := .cutting } idleS).cavities, engine := e }

/-- The rough pass open before its HOLD, the engine at the end of sequence 4. -/
def beforeHold5 : Cavity :=
  withPass .active
    { rough [{ seg4 with state := .cut }] with
      appended := 5, nextSeq := 5, closed := false, holdOffset := none, endOffset := 630000, endPoint := ⟨1040000, 2210000⟩
      bridgeCount := 0 } cav5

/-- Sequence 5 of the example, with HOLD. -/
def holding5 : SegRecord := { closing6 with seq := 5, dy := -100000, flags := 0x20#8 }

/-- Pass 0 AT_HOLD with its HOLD segment parked. -/
def parked5 : Cavity :=
  { withPass .atHold { open5 with segs := [{ seg4 with state := .cut }] } cav5 with
    effective := some .bridge, bridge := [{ seg5 with state := .parked }] }

/-- Pass 1, a skim, AT_HOLD with its CLOSE to come. -/
def skimming5 : Cavity :=
  { cutting5 with
    effective := some .bridge, currentPass := 1
    passes :=
      cutting5.passes.set 1
        { PassRec.new 1 with state := .atHold, chain := { skim1 with closed := false, endOffset := 100000, segs := [] } } }

def atHoldS (c : Cavity) (k : PassIx) (st : EngineState) : State :=
  openS c { cutEngine with state := st, chain := some (.pass k), p := 630000, h := 630000 }

/-- Every state of the engine on the chain: CUTTING, PAUSED out of STARVED, STARVED before and at the hold. -/
theorem witness_PassRecordIsCheckedAndStored_active :
    let open0 : Cavity := withPass .active open5 cav5
    let starved (c : Cavity) (p : Nat) : State := openS c { cutEngine with state := .starved, p := p, h := p }
    (closing6.unused = false ∧ closing6.cavity = (5 : CavityId).val ∧ closing6.chain = (0 : PassIx).val ∧
      (openS open0 cutEngine).raised = [] ∧ (openS open0 cutEngine).cavity 5 = some { open0 with state := .cutting } ∧
      (openS open0 cutEngine).checkPlaced ⟨5, { open0 with state := .cutting }, .pass 0⟩ closing6 = none ∧
      (openS open0 cutEngine).job.active = some 5 ∧ (openS open0 cutEngine).engine.chain = some (.pass 0) ∧
      (openS open0 cutEngine).engine.state = .cutting) ∧
    (let s := openS open0 { cutEngine with state := .paused, resume := some .starved }
     s.engine.state = .paused ∧ s.engine.resume = some .starved) ∧
    ((starved open0 730000).engine.state = .starved ∧ open5.holdOffset ≠ some 730000) ∧
    ((starved beforeHold5 630000).checkPlaced ⟨5, { beforeHold5 with state := .cutting }, .pass 0⟩ holding5 = none ∧
      beforeHold5.planned ≠ .none ∧ beforeHold5.effective = none ∧ holding5.hold = true ∧
      (beforeHold5.passes[(0 : PassIx)]).chain.endOffset = 630000) := by decide +kernel

/-- Parked and discarded records, without and with CLOSE: in a recovery, in a pause, STARVED. -/
theorem witness_PassRecordIsCheckedAndStored_atHold :
    let skim : SegRecord := { closing6 with seq := 3, chain := 1, dx := 10000, dy := 0 }
    let s := atHoldS parked5 0 .starved
    ((parked5.passes[(0 : PassIx)]).state = .atHold ∧ (skimming5.passes[(1 : PassIx)]).state = .atHold) ∧
    (s.raised = [] ∧ s.checkPlaced ⟨5, { parked5 with state := .cutting }, .pass 0⟩ closing6 = none ∧ closing6.close = true ∧
      s.recovery.stage = .none ∧ s.engine.state ≠ .paused) ∧
    (s.checkPlaced ⟨5, { parked5 with state := .cutting }, .pass 0⟩ { closing6 with flags := 0 } = none ∧
      ({ closing6 with flags := 0 } : SegRecord).close = false) ∧
    (atHoldS parked5 0 .paused).engine.state = .paused ∧
    (let d : Cavity := { parked5 with state := .breakRecovery }
     (recoveryS .awaitReroute wireIn).recovery.stage ≠ .none ∧
       (recoveryS .awaitReroute wireIn).checkPlaced ⟨5, d, .pass 0⟩ closing6 = none) ∧
    ((atHoldS skimming5 1 .starved).checkPlaced ⟨5, { skimming5 with state := .cutting }, .pass 1⟩ skim = none ∧
      skim.chain = (1 : PassIx).val ∧ (1 : PassIx) ≠ 0) := by decide +kernel

/-- The whole route in one record: DRY, CLOSE at the resume point. -/
def wholeRoute : SegRecord := { closing6 with seq := 0, chain := 4, dx := 50000, dy := 60000, flags := 0x48#8 }

/-- The reroute chain with one open segment. -/
def halfRoute : OwnedChain :=
  { route5 with
    chain :=
      { route5.chain with
        segs := [{ seg 0 0 50000 50000 0 ⟨1000000, 2000000⟩ with mode := .dry }], closed := false
        endOffset := 50000, endPoint := ⟨1050000, 2000000⟩ } }

def halfRoutedS (e : Engine) : State :=
  { recoveryS .reroute wireIn with
    store := { cuttingS.store with free := 2040, reroute := some halfRoute, nextSerial := 10 }, engine := e }

/-- A record out of its stage; the first one, RUNNING and PAUSED; a further one with the chain to come, CUTTING, PAUSED, STARVED. -/
theorem witness_PassRecordIsCheckedAndStored_reroute :
    let rest : SegRecord := { wholeRoute with seq := 1, dx := 0 }
    let on (st : EngineState) : State :=
      halfRoutedS { cutEngine with state := st, chain := some .reroute, resume := if st = .paused then some .starved else none }
    (wholeRoute.unused = false ∧ wholeRoute.cavity = (5 : CavityId).val ∧ wholeRoute.chain = 4 ∧
      (∀ o, cuttingS.store.reroute = some o → o.owner = 5) ∧ cuttingS.checkPlaced ⟨5, cutting5, .reroute⟩ wholeRoute = some .wrongState) ∧
    ((recoveryS .awaitReroute wireIn).checkPlaced ⟨5, broken5, .reroute⟩ wholeRoute = none ∧
      (recoveryS .awaitReroute wireIn).checkPlaced ⟨5, broken5, .reroute⟩ { wholeRoute with dx := 49999 } = some .rerouteMismatch ∧
      (recoveryS .awaitReroute wireIn).checkPlaced ⟨5, broken5, .reroute⟩ { wholeRoute with flags := 0x40#8 } = some .badField ∧
      (recoveryS .awaitReroute wireIn).engine.chain ≠ some .reroute ∧ (recoveryS .awaitReroute wireIn).job.state ≠ .paused ∧
      (recoveryPausedS .awaitReroute wireIn).job.state = .paused) ∧
    (∀ st ∈ [EngineState.cutting, .starved, .paused],
      (on st).checkPlaced ⟨5, broken5, .reroute⟩ rest = none ∧ (on st).recovery.stage = .reroute ∧
        (on st).engine.chain = some .reroute ∧ (on st).engine.state = st) ∧
    ((halfRoutedS { cutEngine with state := .broken }).checkPlaced ⟨5, broken5, .reroute⟩ rest = none ∧
      (halfRoutedS { cutEngine with state := .broken }).engine.chain ≠ some .reroute) :=
  ⟨⟨by decide +kernel, by decide +kernel, by decide +kernel, fun _ h => by (cases h), by decide +kernel⟩, by decide +kernel,
    by decide +kernel, by decide +kernel⟩

/-! Windows: arrivals, stop points, the first faulted report. -/

def idleUnit : Threading := { State.reset.threading with state := .idle }

/-- The engine on a rapid move that ends at its next window, for a requester. -/
def arrivingS (purpose : MovePurpose) (back : EngineState) (s : State) : State :=
  { s with
    engine := { s.engine with state := .rapid, move := some (.rapid ⟨999000, 2000000⟩ ⟨1000000, 2000000⟩ 10 purpose back) } }

/-- The whole rough pass waits at its start; its hold at 630,000 or at 0. -/
def waitingPass (hold : Nat) : Cavity :=
  { withPass .active { rough [seg0, seg1, seg2, seg3, seg4, seg5, seg6] with holdOffset := some hold } cav5 with state := .cutting }

def seatS (c : Cavity) : State := openS c { cutEngine with p := 0, h := 0, floor := 0 }

theorem witness_DryAndRapidWindowsMove_arrivals :
    let idle : State := { threadingS .idle id with threading := idleUnit }
    let sep : State := { idle with cavities := (holding { retained5 with state := .separating } idleS).cavities }
    let w : Attempting := { purpose := .cutting, target := ⟨1000000, 2000000⟩, attempt := 1, cavity := 5 }
    (∀ s ∈ [idle, sep, threadingS .position id],
      let u := arrivingS .sequencer .idle s
      u.operating = true ∧ u.raised = [] ∧ u.engine.state = .rapid ∧ 10 ≤ rapidLength ⟨999000, 2000000⟩ ⟨1000000, 2000000⟩ ∧
        rapidLength ⟨999000, 2000000⟩ ⟨1000000, 2000000⟩ ≤ 10 + u.params.rapidSpeed ∧ s.job.active = some 5 ∧
        (s.cavity 5).isSome = true ∧ s.threading.wireIn = false ∧ { s with threading := wireIn }.threading.wireIn = true) ∧
    (sep.cavity 5 = some { retained5 with state := .separating } ∧
      (recoveryS .toHole idleUnit).threading.wireIn = false ∧ (recoveryS .toHole idleUnit).job.active = some 5) ∧
    ((threadingS .position id).threading.state = .position ∧ (threadingS .position id).threading.restart = none ∧
      (threadingS .position id).threading.work = some w ∧ w.cavity = 5 ∧ idle.threading.state ≠ .position) ∧
    ((seatS (withPass .active (Chain.new 0) cav5)).activeChain = some (Chain.new 0) ∧ (Chain.new 0).appended = 0 ∧
      (seatS (waitingPass 630000)).engine.chain = some (.pass 0) ∧ (seatS (waitingPass 630000)).atHold = false ∧
      ((seatS (waitingPass 630000)).activeChain.map fun c => c.appended) = some 7 ∧ (seatS (waitingPass 0)).atHold = true) ∧
    (let s : State := { recoveryS .kerfThread wireIn with engine := { cutEngine with state := .rapid, move := some (.traverse 99500) } }
     s.engine.state = .rapid ∧ s.engine.move = some (.traverse 99500) ∧ s.engine.chain = some (.pass 0) ∧
       99500 ≤ s.engine.p ∧ s.engine.p ≤ 99500 + s.params.drySpeed) := by decide +kernel

/-- The hold, the end of a closed chain, and a chain in path order with P inside a segment. -/
theorem witness_StepTakesEffectOnChain_stops :
    let c := (cutting5.passes[(0 : PassIx)]).chain
    let d := route5.chain
    (cuttingS.holdApplies && decide (c.holdOffset = some (cuttingS.engine.p + 530000))) = true ∧
    (reroutingS.engine.chain = some .reroute ∧ reroutingS.activeChain = some d ∧ reroutingS.engine.p ≤ reroutingS.engine.h ∧
      (reroutingS.holdApplies && decide (d.holdOffset = some d.endOffset)) = false ∧ d.closed = true ∧
      reroutingS.engine.h < reroutingS.engine.p + (d.endOffset - 10) ∧ reroutingS.engine.p + (d.endOffset - 10) = d.endOffset) ∧
    (cuttingS.engine.floor ≤ cuttingS.engine.p ∧ 100005 ≤ c.endOffset ∧ c.segs.Pairwise (fun a b => a.endOffset ≤ b.s0) ∧
      (∀ x ∈ c.segs, 0 < x.len ∧ x.endOffset ≤ c.endOffset ∧ (x.state = .cut → x.endOffset ≤ cuttingS.engine.h)) ∧
      ∃ x ∈ c.segs, x.covers 100005 = true) ∧
    ((∀ x ∈ [{ engaged seg2 with state := .cut }, engaged seg3], x.state = .cut ∨ x.state = .engaged) ∧
      cuttingS.engine.p ≤ (engaged seg3).endOffset) := by decide +kernel

/-- A first faulted report: the engine PAUSED in a PAUSED job, STARVED or IDLE in a RUNNING one, CUTTING. -/
theorem witness_RestingWindowsAndGeneratorWatch_first :
    let starved : State := { cuttingS with engine := { cutEngine with state := .starved } }
    let msg := report 1 1 1 1 1
    parseReport msg = some ⟨1, 1, 1, 1, true⟩ ∧
    (∀ s ∈ [pausedS, starved, cuttingS], s.operating = true ∧ s.quiet ∧ s.genWatch.latch = false ∧
      s.onlyPauses Event.genFault = true ∧ s.job.state ∈ [.running, .paused]) ∧
    (pausedS.engine.state = .paused ∧ pausedS.job.state = .paused ∧ starved.engine.state = .starved ∧ starved.job.state = .running) ∧
    (cuttingS.engine.state = .cutting ∧ cuttingS.engine.chain = some (.pass 0) ∧
      cuttingS.activeChain = some (cutting5.passes[(0 : PassIx)]).chain ∧ cuttingS.segmentAtP = some (engaged seg2) ∧
      (engaged seg2).mode = .cut ∧ cuttingS.job.state = .running) := by decide +kernel

/-- The first fault flag in a dry window and in a rapid move. -/
theorem witness_RestingWindowsAndGeneratorWatch_moving :
    let dry : State :=
      { cuttingS with
        cavities := (holding { withPass .active (rough [engaged seg0, engaged seg1]) cav5 with state := .cutting } idleS).cavities
        engine := { cutEngine with p := 0, h := 0, floor := 0 } }
    let r : Move := .rapid ⟨0, 0⟩ ⟨3000, 0⟩ 0 .position .idle
    parseReport (report 1 1 1 1 1) = some ⟨1, 1, 1, 1, true⟩ ∧
    (∀ s ∈ [dry, movingS r .rapid], s.operating = true ∧ s.quiet ∧ s.genWatch.latch = false) ∧
    (dry.engine.state = .cutting ∧ dry.activeChain = some (rough [engaged seg0, engaged seg1]) ∧
      dry.segmentAtP = some (engaged seg0) ∧ (engaged seg0).mode = .dry) ∧
    ((movingS r .rapid).engine.state = .rapid ∧ (movingS r .rapid).engine.move = some r ∧
      0 + (movingS r .rapid).params.rapidSpeed < rapidLength ⟨0, 0⟩ ⟨3000, 0⟩) := by decide +kernel

/-! The routes of a recovery. -/

def severing (f : SeverForm) (p : SeverFor) : Threading := { idleUnit with state := .sever, sever := some ⟨f, .pulse, p, 5⟩ }

def noKerf (s : State) : State := { s with profiles := Vector.replicate 4 { Profile.default with kerfAttempts := 0 } }

theorem witness_SeverRunsItsPhases_stub :
    let s := recoveryS .stubCut (severing .stub .stubCut)
    (s.operating = true ∧ s.quiet ∧ s.threading.state = .sever ∧ s.threading.restart = none ∧
      s.threading.sever = some ⟨.stub, .pulse, .stubCut, 5⟩ ∧ s.job.active = some 5 ∧ s.cavity 5 = some broken5 ∧
      s.recovery.breakPoint = some breakAt ∧ 0 < (s.profiles[broken5.profile]).kerfAttempts) ∧
    ((noKerf s).quiet ∧ ((noKerf s).profiles[broken5.profile]).kerfAttempts = 0 ∧ (noKerf s).job.state = .running ∧
      (noKerf s).engine.move = none ∧ (noKerf s).engine.commanded ≠ broken5.hole) ∧
    (let p := noKerf (recoveryPausedS .stubCut (severing .stub .stubCut))
     p.quiet ∧ p.job.state = .paused ∧ (p.profiles[broken5.profile]).kerfAttempts = 0) := by decide +kernel

/-- The SEVER before a HOLE threading in its withdraw phase. -/
theorem witness_SeverRunsItsPhases_preThread :
    let w : Attempting := { purpose := .cutting, target := ⟨1000000, 2000000⟩, attempt := 1, cavity := 5 }
    let s := threadingS .sever fun t => { t with sever := some ⟨.full, .withdraw, .preThread, 5⟩ }
    s.operating = true ∧ s.quiet ∧ s.threading.state = .sever ∧ s.threading.restart = none ∧
      s.threading.sever = some ⟨.full, .withdraw, .preThread, 5⟩ ∧ s.threading.work = some w ∧ s.job.active = some w.cavity ∧
      (s.cavity 5).isSome = true := by decide +kernel

/-- A threading of a purpose at its second attempt in TENSION. -/
def tensioning (p : Purpose) : Threading :=
  { idleUnit with state := .tension, work := some { purpose := p, target := ⟨1000000, 2000000⟩, attempt := 2, cavity := 5 } }

def sepChain5 : OwnedChain :=
  { owner := 5
    chain :=
      { Chain.new 9 with
        segs := retained5.separationSegs, appended := 4, nextSeq := 4, closed := true, endOffset := 230000
        endPoint := ⟨1040000, 2210000⟩ } }

def separatingS (t : Threading) : State :=
  { jobIn .running (some 5) (holding { retained5 with state := .separating, leadIn := [], bridge := [], sepSelected := true } limitedS) with
    engine := { State.reset.engine with commanded := ⟨1000400, 2000000⟩ }, threading := t
    store := { cuttingS.store with free := 2044, separation := some sepChain5, nextSerial := 10 } }

/-- A success of a threading: kerf with the resume point behind and at P, recovery, separation, cutting off the hole and at a hold. -/
theorem witness_TensionEndsThreading_purposes :
    let at_ (c : Cavity) (p : Point) : State :=
      { threadingS .tension fun _ => tensioning .cutting with
        cavities := (holding { c with state := .threading } idleS).cavities, engine := { State.reset.engine with commanded := p } }
    let w (p : Purpose) : Attempting := { purpose := p, target := ⟨1000000, 2000000⟩, attempt := 2, cavity := 5 }
    (∀ p ∈ [Purpose.kerf, .recovery],
      let s := recoveryS .kerfThread (tensioning p)
      s.operating = true ∧ s.quiet ∧ s.threading.state = .tension ∧ s.threading.restart = none ∧
        s.threading.work = some (w p) ∧ s.job.active = some 5 ∧ s.cavity 5 = some broken5 ∧
        s.recovery.resumePoint = some resumeAt ∧ resumeAt.offset < s.engine.p ∧ breakAt.offset = s.engine.p) ∧
    ((separatingS (tensioning .separation)).quiet ∧ (separatingS (tensioning .separation)).store.separation = some sepChain5 ∧
      0 < sepChain5.chain.appended ∧ (separatingS (tensioning .separation)).threading.work = some (w .separation)) ∧
    ((at_ (waitingPass 630000) ⟨1000400, 2000000⟩).quiet ∧ 0 < ((waitingPass 630000).passes[(0 : PassIx)]).chain.appended ∧
      (at_ (waitingPass 630000) ⟨1000400, 2000000⟩).engine.commanded ≠ (waitingPass 630000).hole) ∧
    ((at_ (waitingPass 0) ⟨1000000, 2000000⟩).engine.commanded = (waitingPass 0).hole ∧
      ((waitingPass 0).passes[(0 : PassIx)]).chain.holdOffset = some 0 ∧ (waitingPass 0).planned ≠ .none ∧
      (waitingPass 0).effective = none) := by decide +kernel

/-- A break during recovery, below the limit and at it, RUNNING and PAUSED; one in a stage without a wire to break; one of a
separation. -/
theorem witness_FirstBreakBeginsRecovery_again :
    (∀ st ∈ [Stage.kerfThread, .awaitReroute, .reroute, .resuming],
      let s := routed (recoveryS st wireIn)
      s.threading.wireIn = true ∧ s.job.active = some 5 ∧ s.cavity 5 = some broken5 ∧ broken5.state = .breakRecovery ∧
        s.recovery.stage = st ∧ broken5.breakCount + 1 < s.params.breakLimit ∧ s.job.state = .running ∧
        s.engine.commanded ≠ broken5.hole) ∧
    (recoveryPausedS .resuming wireIn).job.state = .paused ∧
    (reroutingS.threading.wireIn = true ∧ reroutingS.engine.chain = some .reroute ∧ reroutingS.recovery.stage = .reroute) ∧
    (broken5.breakCount + 4 = 5 ∧ cuttingS.params.breakLimit ≤ { broken5 with breakCount := 4 }.breakCount + 1 ∧
      cuttingS.params.faultPolicy = .skip ∧ wireIn.state ≠ .sever) ∧
    ((recoveryS .holeThread wireIn).threading.wireIn = true ∧ (recoveryS .holeThread wireIn).recovery.stage = .holeThread) ∧
    ((separatingS wireIn).threading.wireIn = true ∧ (separatingS wireIn).job.active = some 5 ∧
      ((separatingS wireIn).cavity 5).map Cavity.state = some .separating ∧ (separatingS wireIn).job.state ≠ .paused) := by
  decide +kernel

/-- The reroute chain's start at the hole and off it, and its end. RESUMING at the resume point and off it; the broken pass AT_HOLD,
at its starvation point, at its hold, between them, and with its CLOSE come, taken in a pause or not. -/
theorem witness_FirstBreakBeginsRecovery_resuming :
    let s := routed (recoveryS .reroute wireIn)
    let onHole : State := { s with engine := { s.engine with commanded := broken5.hole } }
    let there : State := { recoveryS .resuming wireIn with engine := { cutEngine with state := .broken, commanded := resumeAt.pos } }
    let closing (st : PassState) : State :=
      { there with
        cavities := (holding { parked5 with state := .breakRecovery, passes := parked5.passes.set 0 { parked5.passes[(0 : PassIx)] with state := st } } idleS).cavities
        recovery := { there.recovery with closePending := true } }
    (s.job.active = some 5 ∧ s.cavity 5 = some broken5 ∧ s.store.reroute = some route5 ∧ 0 < route5.chain.appended ∧
      s.engine.commanded ≠ broken5.hole ∧ onHole.engine.commanded = broken5.hole) ∧
    (reroutingS.store.reroute = some route5 ∧ reroutingS.engine.chain = some .reroute) ∧
    (there.recovery.resumePoint = some resumeAt ∧ there.job.state ≠ .paused ∧ there.engine.commanded = resumeAt.pos ∧
      s.engine.commanded ≠ resumeAt.pos ∧ s.engine.move = none ∧ (recoveryPausedS .resuming wireIn).job.state = .paused) ∧
    (there.recovery.closePending = false ∧ (broken5.passes[broken5.currentPass]).state ≠ .atHold ∧
      (broken5.passes[broken5.currentPass]).chain.closed = true ∧
      (broken5.passes[broken5.currentPass]).chain.holdOffset ≠ some resumeAt.offset ∧
      { resumeAt with offset := 630000 }.offset = 630000) ∧
    ((parked5.passes[parked5.currentPass]).state = .atHold ∧ open5.closed = false ∧
      { resumeAt with offset := 730000 }.offset = open5.endOffset) ∧
    ((closing .atHold).recovery.closePending = true ∧ ((closing .complete).cavity 5).map (fun c => (c.passes[c.currentPass]).state) = some .complete) := by
  decide +kernel

/-! Degradation, and selection for separation. -/

/-- Cavity 9 of chapter 8.3, under id 5, at its hold with the clamp standing for another cavity or for itself. -/
def cav9S (c : Cavity) (clamp : Clamp) (st : EngineState) : State :=
  { clampedS clamp (openS c { cutEngine with state := st, p := 200000, h := 200000 }) with
    retention := { clamp := clamp, clampReq := true, timer := if st = .clampWait then some 2000 else none } }

/-- The same with its first skim at the edge of the plane. -/
def edge9 : Cavity :=
  { cav9 with
    passes :=
      cav9.passes.set 1
        { cav9.passes[(1 : PassIx)] with chain := { skim1 with segs := [seg 0 0 8388000 0 0 ⟨8288608, 0⟩] } } }

theorem witness_ClampSensorAndWait_degrade :
    (∀ c ∈ [cav9, edge9],
      (cav9S c (.held 7) .cutting).job.active = some 5 ∧ (cav9S c (.held 7) .cutting).cavity 5 = some { c with state := .cutting } ∧
        (cav9S c (.held 7) .cutting).engine.chain = some (.pass 0) ∧ c.planned = .clamp ∧
        (cav9S c (.held 7) .cutting).retention.clamp ≠ .free ∧ (cav9S c (.held 7) .cutting).engine.state ≠ .starved ∧
        (c.passes[(0 : PassIx)]).chain.holdOffset = some 200000) ∧
    (cav9.skimsInRange = true ∧ cav9.shiftSkims.skimsInRange = true ∧ edge9.shiftSkims.skimsInRange = false) ∧
    ((cav9S cav9 (.requested 5) .clampWait).operating = true ∧
      (cav9S cav9 (.requested 5) .clampWait).retention.clamp = .requested 5 ∧
      (cav9S cav9 (.requested 5) .clampWait).retention.timer.isSome = true) ∧
    (hasLog ((cav9S edge9 (.held 7) .cutting).maps.entry .a Event.retentionDegraded) = true ∧
      (cav9S edge9 (.held 7) .cutting).threading.state ≠ .sever ∧ (cav9S edge9 (.held 7) .cutting).threading.wireIn = true ∧
      (cav9S edge9 (.held 7) .cutting).job.state ≠ .paused) := by decide +kernel

/-- A contour that closes and one that does not, off the hole and over it; the end of the chain; its failed threading. -/
theorem witness_SeparationChainReversesBridge_selection :
    let open_ : Cavity := { retained5 with bridge := [{ seg5 with state := .parked }] }
    let onHole : State := { retainedS with engine := { retainedS.engine with commanded := retained5.hole } }
    let running : State := { separatingS wireIn with engine := { cutEngine with chain := some .separation, p := 230000, h := 230000 } }
    let w : Attempting := { purpose := .separation, target := ⟨1000000, 2000000⟩, attempt := 5, cavity := 5 }
    (retainedS.cavity 5 = some retained5 ∧ retainedS.store.separation = none ∧ retainedS.engine.move = none ∧
      retainedS.engine.commanded ≠ retained5.hole ∧ onHole.engine.commanded = retained5.hole ∧
      (retained5.bridge.getLast?.map fun g => g.stop) = retained5.leadIn.getLast?.map (fun g => g.stop)) ∧
    (open_.bridge.getLast?.map fun g => g.stop) ≠ open_.leadIn.getLast?.map (fun g => g.stop) ∧
    (running.job.active = some 5 ∧ running.store.separation = some sepChain5 ∧ running.engine.chain = some .separation) ∧
    (w.purpose = .separation ∧ ((separatingS idleUnit).cavity 5).isSome = true ∧
      (separatingS idleUnit).store.separation = some sepChain5 ∧ sepChain5.owner = w.cavity ∧
      (separatingS idleUnit).params.faultPolicy = .skip) := by decide +kernel

/-- Attempt 5 of 5 of a HOLE threading, in JET. -/
def lastJet (p : Purpose) : Threading :=
  { idleUnit with state := .jet, work := some { purpose := p, target := ⟨1000000, 2000000⟩, attempt := 5, cavity := 5 } }

def policy (f : FaultPolicy) (s : State) : State :=
  { s with job := { s.job with params := some { JobParams.default with faultPolicy := f } } }

/-- The exhaustion of each HOLE purpose under both policies; a TO_HOLE that waits for a withdraw, off the hole and over it, in a
RUNNING and in a PAUSED job. -/
theorem witness_FailedAttemptsWithdraw_exhausted :
    let out : Threading := { idleUnit with state := .withdraw, withdraw := some ⟨.failed, 5⟩ }
    let s := recoveryS .toHole out
    let onHole : State := { s with engine := { s.engine with commanded := broken5.hole } }
    (∀ f ∈ [FaultPolicy.skip, .halt],
      ∀ s ∈ [threadingS .jet fun _ => lastJet .cutting, recoveryS .holeThread (lastJet .recovery), separatingS (lastJet .separation)],
        (policy f s).operating = true ∧ (policy f s).quiet ∧ (policy f s).threading.restart = none ∧
          (policy f s).threading.state = .jet ∧ ((policy f s).profileOf 5).attempts ≤ 5 ∧ (policy f s).job.active = some 5 ∧
          (policy f s).job.state = .running ∧ ((policy f s).cavity 5).isSome = true ∧ (policy f s).params.faultPolicy = f) ∧
    ((separatingS (lastJet .separation)).store.separation = some sepChain5 ∧ sepChain5.owner = 5) ∧
    (s.operating = true ∧ s.quiet ∧ s.threading.restart = none ∧ s.threading.state = .withdraw ∧
      s.threading.withdraw = some ⟨.failed, 5⟩ ∧ s.recovery.stage = .toHole ∧ s.engine.state = .broken ∧ s.job.active = some 5 ∧
      s.cavity 5 = some broken5 ∧ s.job.state ≠ .paused ∧ s.engine.commanded ≠ broken5.hole ∧ s.engine.move = none) ∧
    (onHole.quiet ∧ onHole.engine.commanded = broken5.hole ∧ onHole.threading.wireIn = false) ∧
    ((recoveryPausedS .toHole out).quiet ∧ (recoveryPausedS .toHole out).job.state = .paused ∧
      (recoveryPausedS .toHole out).engine.state = .broken) := by decide +kernel

/-- R130: the rapid move to the hole is requested when the withdraw of the last kerf attempt ends. -/
theorem test_withdraw_end_moves_to_hole :
    after .withdrawExpiry (recoveryS .toHole { idleUnit with state := .withdraw, withdraw := some ⟨.failed, 5⟩ })
      (fun t => decide (t.engine.state = .rapid) && decide (t.threading.state = .failed) && decide (t.recovery.stage = .toHole)) =
      true := by decide +kernel

/-- R37, R114: under HALT the exhaustion halts the job, and the failed cavity keeps its reason. -/
theorem test_exhaustion_halts :
    after .passTimeout (policy .halt (recoveryS .holeThread (lastJet .recovery)))
      (fun t => decide (t.job.state = .halted) && decide (t.threading.state = .idle) && decide (t.recovery.stage = .none) &&
        decide ((t.cavity 5).map (fun c => c.fault) = some (some .threadExhausted))) = true := by decide +kernel

/-- A PAUSED job whose threading unit waits for the return. -/
def suspendedS (t : Threading) : State :=
  pausedFor ⟨true, false, false, false⟩ (some 5) { threadingS .idle id with threading := t }

/-- Attempt 3 of a threading for cutting. -/
def attempt3 : Attempting := { purpose := .cutting, target := ⟨1000000, 2000000⟩, attempt := 3, cavity := 5 }

/-- Each restart point, with the engine at rest and in a resumed move; a SEVER and a WITHDRAW asked for in the pause. -/
theorem witness_JobResumeRestartsTheBlocks_restart :
    let marked (st : ThreadState) (r : RestartPoint) : Threading :=
      { idleUnit with
        state := st, restart := some r, work := some attempt3, withdraw := some ⟨.nextAttempt, 5⟩
        sever := some ⟨.full, .homeWait, .lastPass, 5⟩ }
    let moving (s : State) : State :=
      { s with engine := { s.engine with state := .paused, resume := some .rapid, move := some (.rapid ⟨0, 0⟩ ⟨3000, 0⟩ 5 .position .idle) } }
    (∀ t ∈ [marked .jet .attempt, marked .withdraw .withdraw, marked .sever .cutPhase, marked .sever .severWithdraw],
      asked 0x23#8 1 [] (suspendedS t) ∧ (suspendedS t).job.state = .paused ∧ (suspendedS t).job.reasons.interlock = false ∧
        (suspendedS t).recovery.startPending = false ∧ (suspendedS t).engine.state ≠ .paused ∧ t.deferred = none ∧
        (suspendedS t).job.active = some attempt3.cavity ∧
        (moving (suspendedS t)).engine.state = .paused ∧ (moving (suspendedS t)).engine.resume = some .rapid) ∧
    (∀ d ∈ [Deferred.sever 5, .withdraw 5], ∀ r ∈ [none, some RestartPoint.attempt],
      let t : Threading := { idleUnit with state := .jet, restart := r, deferred := some d }
      asked 0x23#8 1 [] (suspendedS t) ∧ (suspendedS t).job.state = .paused ∧ t.work = none) := by decide +kernel

/-- R119: the restarted attempt keeps its number and its cavity's attempts used, and begins at ANNEAL. -/
theorem test_resume_restarts_attempt :
    after (.jobResume 1 [])
      (ask 0x23#8 1 [] (suspendedS { idleUnit with state := .tension, restart := some .attempt, work := some attempt3 }))
      (fun t => decide (t.threading.state = .anneal) && decide (t.threading.work = some attempt3) && t.threading.out.anneal &&
        decide ((t.cavity 5).map (fun c => c.attemptsUsed) = some 1)) = true := by decide +kernel

/-- The machine free for a selection, with one cavity in the table. -/
def freeS (c : Cavity) : State :=
  { jobIn .running none (holding c limitedS) with engine := { State.reset.engine with commanded := ⟨3, 4⟩ } }

/-- The queue filled for AT_END; none left to fill, so the job completes; a PLANNED cavity; an active cavity. -/
theorem witness_JobStartRunsAndSelects_sequencer :
    let tried : Cavity := { retained5 with sepSelected := true }
    (∀ c ∈ [retained5, tried, cav5],
      (freeS c).raised = [] ∧ (freeS c).job.state = .running ∧ (freeS c).job.active = none ∧ (freeS c).engine.state = .idle ∧
        (freeS c).threading.state ≠ .sever ∧ (freeS c).threading.state ≠ .withdraw ∧ (freeS c).engine.move = none ∧
        (freeS c).params.separationPolicy = .atEnd ∧ (freeS c).sepQueue = [] ∧ (freeS c).cavity 5 = some c ∧
        (freeS c).engine.commanded ≠ c.hole ∧ (freeS c).store.separation = none) ∧
    ((freeS retained5).fillQueue.sepQueue = [5] ∧ (freeS tried).fillQueue.sepQueue = [] ∧
      (freeS tried).runOrder.find? (fun j => (freeS tried).cavityIn j .planned) = none ∧
      State.inert { freeS tried with job := { (freeS tried).job with state := .complete } } Event.jobComplete = true) ∧
    ((freeS cav5).fillQueue.sepQueue = [] ∧ (freeS cav5).runOrder.find? (fun j => (freeS cav5).cavityIn j .planned) = some 5) ∧
    (retained5.bridge.getLast? = some { seg6 with state := .parked } ∧
      (retained5.leadIn.getLast?.map fun l => l.stop) = some seg6.stop) ∧
    cuttingS.job.active ≠ none := by decide +kernel

/-- AT_END takes the RETAINED cavity for separation once; then the job is COMPLETE (R34, R35). -/
theorem test_sequencer_at_end :
    (((freeS retained5).select.cavity 5).map Cavity.state, (freeS { retained5 with sepSelected := true }).select.job.state) =
      (some .separating, .complete) := by decide +kernel

/-- An ended separation chain whose record stays, with retirements not yet reported. -/
def kept5 : OwnedChain := { sepChain5 with chain := { sepChain5.chain with segs := [], retired := 4, reported := 1 } }

theorem witness_PacingTimerOffersProgress_kept :
    let s : State :=
      { separatingS { State.reset.threading with state := .sever, sever := some ⟨.full, .pulse, .separation, 5⟩ } with
        engine := State.reset.engine, store := { cuttingS.store with separation := some kept5, pacing := some 50 } }
    s.operating = true ∧ s.quiet ∧ s.store.pacing.isSome = true ∧ s.activeChain = none ∧ s.store.separation = some kept5 ∧
      (s.cavity kept5.owner).isSome = true ∧ kept5.chain.retired ≠ kept5.chain.reported ∧
      (∀ j : CavityId, j < 5 → s.cavity j = none) ∧
      ((s.cavity 5).map fun d => decide (∀ m : PassIx, (d.passes[m]).chain.retired = (d.passes[m]).chain.reported)) =
        some true := by decide +kernel

/-- A PROGRESS notice of a chain by kind and number. -/
def reportOf (r : ChainRef) (serial : Nat) : Notice :=
  .progress { cavity := 5, chain := r, h := 0, retired := 1, free := 2000, serial := serial }

/-- The transmitter busy, and a notice queued for the chain and for a later one. -/
def queuedS (r : ChainRef) (serial : Nat) (s : State) : State :=
  { s with link := { s.link with sending := some aFrame, notices := [.event 11 anEvent, reportOf r serial, .event 11 anEvent] } }

/-- A cavity with a reroute chain, with a separation chain, and with neither. -/
theorem witness_PacingTimerOffersProgress_ceasing :
    (reroutingS.store.reroute = some route5 ∧ route5.owner = 5 ∧ reroutingS.store.separation = none ∧
      (reroutingS.cavity 5).isSome = true) ∧
    ((separatingS wireIn).store.separation = some sepChain5 ∧ sepChain5.owner = 5 ∧ (separatingS wireIn).store.reroute = none) ∧
    (cuttingS.store.reroute = none ∧ cuttingS.store.separation = none) ∧
    (∀ s ∈ [reroutingS, separatingS wireIn],
      s.job.state = .running ∧ s.job.active = some 5 ∧ (s.cavity 5).isSome = true) := by decide +kernel

/-- R59: at its end the reroute chain takes its queued notice with it, and no other notice. -/
theorem test_reroute_end_drops_its_notice :
    ((queuedS .reroute route5.chain.serial reroutingS).chainEnd.link.notices,
        (queuedS .reroute (route5.chain.serial + 1) reroutingS).chainEnd.link.notices.length) =
      ([.event 11 anEvent, .event 11 anEvent], 3) := by decide +kernel

/-- R61: an abandoned separation is never reported by the notice still queued. -/
theorem test_abandon_drops_separation_notice :
    after (.cavityAbandon 1 [5#8]) (ask 0x2A#8 1 [5#8] (queuedS .separation sepChain5.chain.serial (separatingS wireIn)))
      (fun t => decide (t.link.notices = [.event 11 anEvent, .event 11 anEvent])) = true := by decide +kernel

/-- R16, R59: a HALT during a separation leaves or drops its queued notice, as the free value says, and no other notice. -/
theorem test_halt_leaves_other_notices :
    ((queuedS .separation sepChain5.chain.serial (separatingS wireIn)).haltJob .halted).link.notices =
      if Config.haltKeepsNotices = true then [.event 11 anEvent, reportOf .separation sepChain5.chain.serial, .event 11 anEvent]
      else [.event 11 anEvent, .event 11 anEvent] := by
  rw [haltJob_eq (.inl (by decide +kernel)), faultByHalt_eq]
  show (if Config.haltKeepsNotices = true then _ else _) = _
  congr 1

/-- A first break in CLAMP_WAIT, at a pass AT_HOLD, and of a pass completed in a pause. -/
theorem witness_FirstBreakBeginsRecovery_hold :
    let cut (st : PassState) : Cavity :=
      { parked5 with state := .cutting, passes := parked5.passes.set 0 { parked5.passes[(0 : PassIx)] with state := st } }
    (clampWaitS.threading.wireIn = true ∧ clampWaitS.job.active = some 5 ∧ clampWaitS.cavity 5 = some waiting5 ∧
      waiting5.state = .cutting ∧ clampWaitS.engine.chain = some (.pass 0) ∧ clampWaitS.engine.state = .clampWait ∧
      clampWaitS.retention.clamp = .requested 5) ∧
    (∀ st ∈ [PassState.atHold, .complete],
      let s : State := { pausedS with cavities := (holding (cut st) idleS).cavities }
      s.threading.wireIn = true ∧ s.job.state = .paused ∧ s.cavity 5 = some (cut st) ∧ (cut st).state = .cutting ∧
        s.engine.chain = some (.pass 0) ∧ ((cut st).passes[(0 : PassIx)]).state = st ∧
        (cut st).breakCount + 1 < s.params.breakLimit) := by decide +kernel

theorem witness_InterlockFollowsInput_resume :
    let s : State := pausedFor ⟨false, false, true, false⟩ (some 5) pausedS
    s.operating = true ∧ s.quiet ∧ s.interlock.mode = .follow ∧ s.job.state = .paused ∧ s.job.reasons.host = false ∧
      s.job.reasons.event = false ∧ s.job.reasons.linkSilent = false := by decide +kernel

/-! ### Witnesses of the invariants: a job in a cut, one step -/

def tickS : State := { cuttingS with pending := [.jobClockAdvance], engine := { cutEngine with genEn := true, energy := 4, energyClass := some 0 } }

theorem tick_steps : step tickS = .next { tickS with pending := [], clock := 1 } := rfl

theorem witness_StepKeepsBoundsAndLocks :
    tickS.listsBounded ∧ tickS.clampReqFollows ∧ tickS.maps.keepsLocked ∧ tickS.underCeilings := by
  refine ⟨?_, ?_, ?_, ?_⟩
  · unfold State.listsBounded; decide +kernel
  · unfold State.clampReqFollows; decide +kernel
  · intro name code
    cases name <;> revert code <;> decide +kernel
  · intro l h
    have hl : lim = l := Option.some.inj h
    subst hl
    refine ⟨by decide +kernel, by decide +kernel, fun p hp => ?_⟩
    have e : JobParams.default = p := Option.some.inj hp
    subst e; decide +kernel

theorem witness_StepKeepsCavityTable : tickS.oneActive ∧ tickS.ordersSound := by
  refine ⟨?_, ?_⟩
  · have key : ∀ i, ((tickS.cavity i).all fun c => !c.state.isActive || decide (tickS.job.active = some i)) = true := by
      decide +kernel
    intro i c h ha
    have := forall_of_all (key i) c h
    simpa [ha] using this
  · unfold State.ordersSound; decide +kernel

/-- Of the pool, seven slots in use; the retained cavity's separation chain holds four. -/
theorem witness_StepKeepsCavityTable_slots :
    let s : State := { tickS with store := { tickS.store with free := 2041 } }
    (s.slotsSound ∧ step s = .next { s with pending := [], clock := 1 }) ∧ (separatingS wireIn).slotsSound := by
  refine ⟨⟨⟨by decide +kernel, fun h => ?_, fun o h => ?_⟩, rfl⟩, by decide +kernel, fun h => ?_, fun o h => ?_⟩
  · cases h
  · rcases h with h | h <;> cases h
  · cases h
  · rcases h with h | h
    · cases h
    · obtain rfl := Option.some.inj h
      decide +kernel

theorem witness_SelectionsAreComplete : tickS.ordersSound ∧ tickS.quiet :=
  ⟨witness_StepKeepsCavityTable.2, by decide +kernel⟩

theorem witness_GenEnableFollows : tickS.genFollows := by
  have h : tickS.segmentAtP = some (engaged seg2) := by decide +kernel
  refine ⟨⟨fun _ => ⟨by decide +kernel, ⟨_, h, by decide⟩, by decide +kernel, by decide +kernel, by decide +kernel⟩, fun _ => rfl⟩,
    fun h => by cases h⟩

end Sys2Proof.Tests
end

namespace Sys2Proof.Machine

/-! ### What a step keeps: the bounds of the lists, CLAMP_REQ, the locked actions, the ceilings -/

/-- A record pushed on a log of at most 256 leaves at most 256 (R175). -/
theorem pushLog_length_le {log : List LogRecord} (h : log.length ≤ 256) (r : LogRecord) : (pushLog log r).length ≤ 256 := by
  unfold pushLog Config.logSlots
  split
  · rw [List.length_append, List.length_singleton]
    exact ‹log.length < 256›
  · split
    · simp only [List.length_cons, List.length_append, List.length_nil] at h ⊢
      omega
    · exact Nat.le_add_left 1 255

/-- A notice offered to a queue of at most 16 leaves at most 16 (R9). -/
theorem offerNotice_length_le {q : List Notice} (h : q.length ≤ 16) (n : Notice) : (offerNotice q n).length ≤ 16 := by
  unfold offerNotice Config.noticeSlots
  split
  · rw [List.length_map]
    exact h
  · split
    · rw [List.length_append, List.length_singleton]
      exact ‹q.length < 16›
    · exact h

/-- The entries of a map after one of them is replaced (R161). -/
theorem EventMap.entry_write (m : EventMap) (name name' : MapName) (code code' : Code) (a : ActionSet) :
    (m.write name code a).entry name' code' = if name = name' ∧ code = code' then a else m.entry name' code' := by
  cases name <;> cases name' <;>
    simp [EventMap.write, EventMap.entry, Vector.getElem_set, Fin.ext_iff]

/-- What MAP_WRITE stores contains the code's locked actions (R159, R161). -/
theorem storedEntry_and_lockedSet (code : Code) (sent : ActionSet) :
    storedEntry code sent &&& lockedSet code.val = lockedSet code.val := by
  ext n hn
  simp only [storedEntry, BitVec.getElem_and, BitVec.getElem_or]
  cases (lockedSet code.val)[n] <;> simp

theorem EventMap.write_keepsLocked {m : EventMap} (h : m.keepsLocked) (name : MapName) (code : Code) (sent : ActionSet) :
    (m.write name code (storedEntry code sent)).keepsLocked := by
  intro name' code'
  rw [EventMap.entry_write]
  split
  · rename_i same
    rw [← same.2]
    exact storedEntry_and_lockedSet code sent
  · exact h name' code'

/-! What a re-clamping stores lies under the ceilings (R14). -/

theorem FeedClass.clamped_under (l : Limits) (c : FeedClass) : (c.clamped l).cap ≤ l.feedCeil := Nat.min_le_right _ _

theorem Profile.clamped_under (l : Limits) (p : Profile) :
    (p.clamped l).anneal ≤ l.annealCeil ∧ (p.clamped l).attempts ≤ l.attemptCeil ∧ (p.clamped l).jetBase ≤ l.jetCeil ∧
      (p.clamped l).kerfJet ≤ l.jetCeil :=
  ⟨Nat.min_le_right _ _, Nat.min_le_right _ _, Nat.min_le_right _ _, Nat.min_le_right _ _⟩

theorem JobParams.clamped_under (l : Limits) (p : JobParams) :
    (p.clamped l).retrace ≤ l.retraceCeil ∧ (p.clamped l).drySpeed ≤ l.rapidCeil ∧ (p.clamped l).rapidSpeed ≤ l.rapidCeil :=
  ⟨Nat.min_le_right _ _, Nat.min_le_right _ _, Nat.min_le_right _ _⟩

/-- The passage from `s` to `t` breaks none of the four invariants. Of the reply list it says that it does not grow, so that the
reply of a decided request finds the room that the decision saw. -/
structure State.KeepsBounds (s t : State) : Prop where
  requests : s.link.requests.length ≤ 4 → t.link.requests.length ≤ 4
  replies : t.link.replies.length ≤ s.link.replies.length
  notices : s.link.notices.length ≤ 16 → t.link.notices.length ≤ 16
  log : s.log.length ≤ 256 → t.log.length ≤ 256
  clampReq : s.clampReqFollows → t.clampReqFollows
  locked : s.maps.keepsLocked → t.maps.keepsLocked
  ceilings : s.underCeilings → t.underCeilings

/-- Staying keeps every bound. The laws below continue from here, one operation after another as the model's definitions name
them. -/
theorem State.keepsSelf (s : State) : s.KeepsBounds s := ⟨id, Nat.le_refl _, id, id, id, id, id⟩

namespace State.KeepsBounds

variable {s t u : State}

theorem trans (h : s.KeepsBounds t) (g : t.KeepsBounds u) : s.KeepsBounds u where
  requests := g.requests ∘ h.requests
  replies := Nat.le_trans g.replies h.replies
  notices := g.notices ∘ h.notices
  log := g.log ∘ h.log
  clampReq := g.clampReq ∘ h.clampReq
  locked := g.locked ∘ h.locked
  ceilings := g.ceilings ∘ h.ceilings

theorem ite {c : Prop} [Decidable c] (h : s.KeepsBounds t) (g : s.KeepsBounds u) :
    s.KeepsBounds (if c then t else u) := by
  split
  · exact h
  · exact g

/-! #### The updates of a field (Update.lean) -/

theorem updCavities (h : s.KeepsBounds t) {f} : s.KeepsBounds (t.updCavities f) := { h with }
theorem updRunOrder (h : s.KeepsBounds t) {f} : s.KeepsBounds (t.updRunOrder f) := { h with }
theorem updSepQueue (h : s.KeepsBounds t) {f} : s.KeepsBounds (t.updSepQueue f) := { h with }
theorem updStore (h : s.KeepsBounds t) {f} : s.KeepsBounds (t.updStore f) := { h with }
theorem updEngine (h : s.KeepsBounds t) {f} : s.KeepsBounds (t.updEngine f) := { h with }
theorem updFeedOverride (h : s.KeepsBounds t) {f} : s.KeepsBounds (t.updFeedOverride f) := { h with }
theorem updGenWatch (h : s.KeepsBounds t) {f} : s.KeepsBounds (t.updGenWatch f) := { h with }
theorem updDriveWatch (h : s.KeepsBounds t) {f} : s.KeepsBounds (t.updDriveWatch f) := { h with }
theorem updThreading (h : s.KeepsBounds t) {f} : s.KeepsBounds (t.updThreading f) := { h with }
theorem updRecovery (h : s.KeepsBounds t) {f} : s.KeepsBounds (t.updRecovery f) := { h with }
theorem updChannels (h : s.KeepsBounds t) {f} : s.KeepsBounds (t.updChannels f) := { h with }
theorem updLevels (h : s.KeepsBounds t) {f} : s.KeepsBounds (t.updLevels f) := { h with }
theorem updInterlock (h : s.KeepsBounds t) {f} : s.KeepsBounds (t.updInterlock f) := { h with }
theorem updClock (h : s.KeepsBounds t) {f} : s.KeepsBounds (t.updClock f) := { h with }
theorem updRaised (h : s.KeepsBounds t) {f} : s.KeepsBounds (t.updRaised f) := { h with }
theorem updPins (h : s.KeepsBounds t) {f} : s.KeepsBounds (t.updPins f) := { h with }

theorem updLink (h : s.KeepsBounds t) {f : Link → Link}
    (requests : t.link.requests.length ≤ 4 → (f t.link).requests.length ≤ 4 := by exact id)
    (replies : (f t.link).replies.length ≤ t.link.replies.length := by exact Nat.le_refl _)
    (notices : t.link.notices.length ≤ 16 → (f t.link).notices.length ≤ 16 := by exact id) :
    s.KeepsBounds (t.updLink f) :=
  { h with
    requests := requests ∘ h.requests
    replies := Nat.le_trans replies h.replies
    notices := notices ∘ h.notices }

/-- A job update that leaves the stored parameters, or brings them under the ceilings. -/
theorem updJobParams (h : s.KeepsBounds t) {f : Job → Job}
    (params : ∀ l p, t.limits = some l → (f t.job).params = some p →
      p.retrace ≤ l.retraceCeil ∧ p.drySpeed ≤ l.rapidCeil ∧ p.rapidSpeed ≤ l.rapidCeil) :
    s.KeepsBounds (t.updJob f) :=
  { h with
    ceilings := fun hs l hl =>
      let ⟨hfeed, hprofiles, _⟩ := h.ceilings hs l hl
      ⟨hfeed, hprofiles, fun p hp => params l p hl hp⟩ }

theorem updJob (h : s.KeepsBounds t) {f : Job → Job} (params : (f t.job).params = t.job.params := by exact rfl) :
    s.KeepsBounds (t.updJob f) :=
  { h with
    ceilings := fun hs l hl =>
      let ⟨hfeed, hprofiles, hparams⟩ := h.ceilings hs l hl
      ⟨hfeed, hprofiles, fun p hp => hparams p (params.symm.trans hp)⟩ }

theorem updRetention (h : s.KeepsBounds t) {f : Retention → Retention}
    (follows : t.clampReqFollows → (t.updRetention f).clampReqFollows) : s.KeepsBounds (t.updRetention f) :=
  { h with clampReq := follows ∘ h.clampReq }

theorem updLog (h : s.KeepsBounds t) {f : List LogRecord → List LogRecord}
    (length : t.log.length ≤ 256 → (f t.log).length ≤ 256) : s.KeepsBounds (t.updLog f) :=
  { h with log := length ∘ h.log }

/-! #### The shared operations (Ops.lean) -/

theorem updCavity (h : s.KeepsBounds t) {i f} : s.KeepsBounds (t.updCavity i f) := h.updCavities

theorem updActive (h : s.KeepsBounds t) {f} : s.KeepsBounds (t.updActive f) := by
  unfold State.updActive
  split
  · exact h.updCavity
  · exact h

theorem setCavState (h : s.KeepsBounds t) {i st} : s.KeepsBounds (t.setCavState i st) := h.updCavity.updJob


theorem updChain (h : s.KeepsBounds t) {r f} : s.KeepsBounds (t.updChain r f) := by
  unfold State.updChain
  split
  · exact h.updActive
  · exact h.updStore
  · exact h.updStore

theorem freeSlots (h : s.KeepsBounds t) {n} : s.KeepsBounds (t.freeSlots n) := h.updStore


theorem logEvent (h : s.KeepsBounds t) {code content} : s.KeepsBounds (t.logEvent code content) :=
  h.updLog fun hl => pushLog_length_le hl _

theorem offer (h : s.KeepsBounds t) {n} : s.KeepsBounds (t.offer n) :=
  h.updLink (notices := fun hl => offerNotice_length_le hl n)

theorem raiseFor (h : s.KeepsBounds t) {cavity code detail} : s.KeepsBounds (t.raiseFor cavity code detail) := by
  unfold State.raiseFor
  have logged := ite (c := hasLog (t.maps.entry t.maps.active code) = true)
    (h.logEvent (code := code) (content := t.eventContent cavity detail)) h
  exact updRaised (ite logged.offer logged)

theorem raise (h : s.KeepsBounds t) {code detail} : s.KeepsBounds (t.raise code detail) := h.raiseFor

theorem markReported (h : s.KeepsBounds t) {c} : s.KeepsBounds (t.markReported c) := by
  unfold State.markReported
  split
  · exact h.updCavity
  · exact h.updChain

theorem startTransmit (h : s.KeepsBounds t) : s.KeepsBounds t.startTransmit := by
  unfold State.startTransmit
  split
  · exact h
  · split
    · rename_i hr
      exact h.updLink (replies := by simp [hr])
    · split
      · rename_i hn
        exact (h.updLink (notices := by simp only [hn, List.length_cons]; omega)).markReported
      · rename_i hn
        exact h.updLink (notices := by simp only [hn, List.length_cons]; omega)
      · exact h

theorem startHeartbeat (h : s.KeepsBounds t) : s.KeepsBounds t.startHeartbeat := h.updLink
theorem stopHeartbeat (h : s.KeepsBounds t) : s.KeepsBounds t.stopHeartbeat := h.updLink
theorem restartHeartbeat (h : s.KeepsBounds t) : s.KeepsBounds t.restartHeartbeat := ite h.startHeartbeat h
theorem pulse (h : s.KeepsBounds t) {n} : s.KeepsBounds (t.pulse n) := h.updChannels
theorem setLevel (h : s.KeepsBounds t) {n active} : s.KeepsBounds (t.setLevel n active) := h.updLevels

theorem outputActions (h : s.KeepsBounds t) {a n} : s.KeepsBounds (t.outputActions a n) := by
  have pulsed := ite (c := hasPulse a n = true) (h.pulse (n := n)) h
  have set := ite (c := hasSet a n = true) (pulsed.setLevel (n := n) (active := true)) pulsed
  exact ite set.setLevel set

theorem allOutputActions (h : s.KeepsBounds t) {a} : s.KeepsBounds (t.allOutputActions a) :=
  h.outputActions.outputActions.outputActions.outputActions

/-! #### The segment store (Store.lean) -/

theorem dispose (h : s.KeepsBounds t) {r c gone} : s.KeepsBounds (t.dispose r c gone) :=
  ite h.updChain.freeSlots h.updChain.freeSlots.updActive

theorem retire (h : s.KeepsBounds t) {r n} : s.KeepsBounds (t.retire r n) := by
  unfold State.retire
  split
  · exact h.updChain.dispose
  · exact h

theorem retireAll (h : s.KeepsBounds t) {r} : s.KeepsBounds (t.retireAll r) := by
  unfold State.retireAll
  split
  · exact h.updChain.dispose
  · exact h

theorem updFloor (h : s.KeepsBounds t) : s.KeepsBounds t.updFloor := by
  unfold State.updFloor
  split
  · exact h.updEngine
  · exact h

theorem engage (h : s.KeepsBounds t) : s.KeepsBounds t.engage := by
  unfold State.engage
  split
  · exact h.updChain
  · exact h

theorem advanceH (h : s.KeepsBounds t) : s.KeepsBounds t.advanceH := by
  unfold State.advanceH
  split
  · exact h.updChain.retire.updFloor
  · exact h

theorem discardFromHold (h : s.KeepsBounds t) {k} : s.KeepsBounds (t.discardFromHold k) := by
  unfold State.discardFromHold
  split
  · exact h.updActive.freeSlots
  · exact h

theorem freeCavity (h : s.KeepsBounds t) {i} : s.KeepsBounds (t.freeCavity i) := by
  unfold State.freeCavity
  split
  · exact h.updCavity.updStore.updLink (notices := Nat.le_trans (length_withoutReportsOf_le t i _))
  · exact h

theorem rerouteCeases (h : s.KeepsBounds t) : s.KeepsBounds t.rerouteCeases :=
  h.updStore.updLink (notices := Nat.le_trans (length_dropReports_le _ _ _))

theorem separationCeases (h : s.KeepsBounds t) : s.KeepsBounds t.separationCeases :=
  h.updStore.updLink (notices := Nat.le_trans (length_dropReports_le _ _ _))

theorem freePasses (h : s.KeepsBounds t) {i} : s.KeepsBounds (t.freePasses i) := by
  unfold State.freePasses
  split
  · exact h.updCavity.freeSlots
  · exact h

theorem discardReroute (h : s.KeepsBounds t) : s.KeepsBounds t.discardReroute := h.freeSlots.rerouteCeases

/-! #### The cut engine (Engine.lean) -/

theorem servoReset (h : s.KeepsBounds t) : s.KeepsBounds t.servoReset := h.updEngine
theorem setEngineState (h : s.KeepsBounds t) {st} : s.KeepsBounds (t.setEngineState st) := h.updEngine
theorem engineStop (h : s.KeepsBounds t) : s.KeepsBounds t.engineStop := h.updEngine
theorem beginMove (h : s.KeepsBounds t) {target purpose} : s.KeepsBounds (t.beginMove target purpose) := h.updEngine
theorem beginTraverse (h : s.KeepsBounds t) {target} : s.KeepsBounds (t.beginTraverse target) := h.updEngine
theorem engineBroken (h : s.KeepsBounds t) : s.KeepsBounds t.engineBroken := h.updEngine
theorem enterStarved (h : s.KeepsBounds t) : s.KeepsBounds t.enterStarved := h.setEngineState.raise
theorem waitAtHold (h : s.KeepsBounds t) : s.KeepsBounds t.waitAtHold := ite h h.enterStarved

theorem engineSuspend (h : s.KeepsBounds t) : s.KeepsBounds t.engineSuspend := by
  unfold State.engineSuspend
  split
  iterate 4 · exact h.updEngine
  · exact h

theorem refreshGen (h : s.KeepsBounds t) {atReport} : s.KeepsBounds (t.refreshGen atReport) := by
  unfold State.refreshGen
  split
  · exact h.updEngine
  · exact ite h.updEngine h.updEngine

/-! #### The threading unit (Threading.lean) -/

theorem beginTrim (h : s.KeepsBounds t) {w} : s.KeepsBounds (t.beginTrim w) := h.updThreading
theorem beginAnneal (h : s.KeepsBounds t) {w} : s.KeepsBounds (t.beginAnneal w) := ite h.beginTrim h.updThreading
theorem beginAttempt (h : s.KeepsBounds t) {w} : s.KeepsBounds (t.beginAttempt w) :=
  h.updThreading.updCavity.beginAnneal

theorem beginJet (h : s.KeepsBounds t) : s.KeepsBounds t.beginJet := by
  unfold State.beginJet
  split
  · exact h.updThreading
  · exact h

theorem requestPosition (h : s.KeepsBounds t) {target} : s.KeepsBounds (t.requestPosition target) := by
  unfold State.requestPosition
  split
  · exact ite h (ite h.updEngine.beginJet h.beginMove)
  · exact ite h.beginJet h.beginMove

theorem beginPosition (h : s.KeepsBounds t) : s.KeepsBounds t.beginPosition := by
  unfold State.beginPosition
  split
  · exact h.updThreading.requestPosition
  · exact h

theorem positionArrived (h : s.KeepsBounds t) : s.KeepsBounds t.positionArrived := ite h.beginJet h

theorem beginTension (h : s.KeepsBounds t) : s.KeepsBounds t.beginTension := by
  unfold State.beginTension
  split
  · exact h.updThreading
  · exact h

theorem beginWithdraw (h : s.KeepsBounds t) {w} : s.KeepsBounds (t.beginWithdraw w) := h.updThreading
theorem severCutPhase (h : s.KeepsBounds t) {v} : s.KeepsBounds (t.severCutPhase v) := h.updThreading
theorem severWithdrawPhase (h : s.KeepsBounds t) {v} : s.KeepsBounds (t.severWithdrawPhase v) := h.updThreading
theorem beginSever (h : s.KeepsBounds t) {form purpose cavity} : s.KeepsBounds (t.beginSever form purpose cavity) :=
  h.updThreading.severCutPhase
theorem requestSever (h : s.KeepsBounds t) {cavity} : s.KeepsBounds (t.requestSever cavity) :=
  ite h.updThreading h.beginSever
theorem beginThreading (h : s.KeepsBounds t) {purpose target cavity} :
    s.KeepsBounds (t.beginThreading purpose target cavity) := ite h.updThreading.beginSever h.beginAttempt

theorem threadingRestart (h : s.KeepsBounds t) : s.KeepsBounds t.threadingRestart := by
  unfold State.threadingRestart
  have h1 := h.updThreading (f := fun v => { v with restart := none })
  split
  · exact h
  · split
    · exact h1.beginAnneal
    · exact h1
  · split
    · exact h1.beginWithdraw
    · exact h1
  · split
    · exact h1.severCutPhase
    · exact h1
  · split
    · exact h1.severWithdrawPhase
    · exact h1

theorem startDeferred (h : s.KeepsBounds t) : s.KeepsBounds t.startDeferred := by
  unfold State.startDeferred
  split
  · exact h
  · exact h.updThreading.beginSever
  · exact h.updThreading.beginWithdraw

theorem threadingStop (h : s.KeepsBounds t) : s.KeepsBounds t.threadingStop := h.updThreading

theorem threadingAbandon (h : s.KeepsBounds t) {cavity} : s.KeepsBounds (t.threadingAbandon cavity) :=
  ite h.updThreading (ite h.updThreading.requestSever
    (ite (ite h.updThreading h.updThreading.beginWithdraw) h.updThreading))

theorem threadingFault (h : s.KeepsBounds t) {cavity} : s.KeepsBounds (t.threadingFault cavity) :=
  ite h.updThreading (ite h.updThreading.requestSever (ite h.updThreading h))

theorem wireBreak (h : s.KeepsBounds t) : s.KeepsBounds t.wireBreak := h.updThreading

/-! #### The end of a cavity and the halt (Cavities.lean) -/

/-- The clamp resource returns to FREE with CLAMP_REQ low (R138). -/
theorem freedClamp (h : s.KeepsBounds t) : s.KeepsBounds (t.updRetention Retention.freed) :=
  h.updRetention fun _ => by simp [State.clampReqFollows, Retention.freed]

theorem withdrawRequest (h : s.KeepsBounds t) {i} : s.KeepsBounds (t.withdrawRequest i) := ite h.freedClamp h
theorem releaseCavity (h : s.KeepsBounds t) {i} : s.KeepsBounds (t.releaseCavity i) := h.freeCavity.updSepQueue
theorem faultCavity (h : s.KeepsBounds t) {i reason} : s.KeepsBounds (t.faultCavity i reason) :=
  h.setCavState.updCavity.releaseCavity.withdrawRequest
theorem doneCavity (h : s.KeepsBounds t) {i} : s.KeepsBounds (t.doneCavity i) := h.setCavState.releaseCavity.raiseFor
theorem skipCavity (h : s.KeepsBounds t) {i} : s.KeepsBounds (t.skipCavity i) := h.setCavState.releaseCavity.updRunOrder
theorem endRecovery (h : s.KeepsBounds t) : s.KeepsBounds t.endRecovery := h.updRecovery

theorem faultActive (h : s.KeepsBounds t) {reason} : s.KeepsBounds (t.faultActive reason) := by
  unfold State.faultActive
  split
  · exact h.faultCavity
  · exact h

/-- The notices that stay are some of those before the fault, whatever the free value says (R16, R59, R61). -/
theorem faultByHalt (h : s.KeepsBounds t) {reason} : s.KeepsBounds (t.faultByHalt reason) :=
  { h.faultActive with
    notices := fun hs => Nat.le_trans (List.length_filter_le _ _) (h.notices hs) }

theorem dropRequest (h : s.KeepsBounds t) : s.KeepsBounds t.dropRequest := by
  unfold State.dropRequest
  split
  · exact h.freedClamp
  · exact h

theorem haltJob (h : s.KeepsBounds t) {reason} : s.KeepsBounds (t.haltJob reason) := by
  by_cases hj : t.job.state = .running ∨ t.job.state = .paused
  · have halted := h.faultByHalt (reason := reason) |>.engineStop.threadingStop.endRecovery.dropRequest
    rcases hj with hj | hj
    all_goals
      simp only [State.haltJob, hj]
      exact halted.updJob.stopHeartbeat
  · rw [haltJob_of_not (fun e => hj (.inl e)) (fun e => hj (.inr e))]
    exact h

theorem faultPolicy (h : s.KeepsBounds t) : s.KeepsBounds t.faultPolicy := by
  unfold State.faultPolicy
  split
  · exact h
  · exact h.haltJob


/-! #### The retention unit (Retention.lean) -/

theorem parkBridge (h : s.KeepsBounds t) : s.KeepsBounds t.parkBridge.1 := by
  unfold State.parkBridge
  split
  · split
    · exact h.updActive
    · exact h.updActive.waitAtHold
  · exact h.updActive

theorem degrade (h : s.KeepsBounds t) {cause} : s.KeepsBounds (t.degrade cause).1 := by
  unfold State.degrade
  split
  · dsimp only
    split
    · exact h.updActive.updActive.raise.parkBridge
    · exact h.updActive.raise.faultCavity.engineStop.threadingFault
  · exact h

/-- A confirmed clamp was requested before, so CLAMP_REQ is asserted (R140, R142). -/
theorem confirmClamp (h : s.KeepsBounds t) {i} (requested : t.retention.clamp ≠ .free) :
    s.KeepsBounds (t.confirmClamp i) := by
  refine updEngine (updCavity (h.updRetention fun follows => ?_))
  simp only [State.clampReqFollows, State.updRetention_retention] at follows ⊢
  simp [follows.2 requested]

theorem startClampWait (h : s.KeepsBounds t) {i} (requested : t.retention.clamp ≠ .free) :
    s.KeepsBounds (t.startClampWait i) :=
  ite (h.confirmClamp requested) (h.updRetention fun follows => follows)

theorem requestClamp (h : s.KeepsBounds t) {i} : s.KeepsBounds (t.requestClamp i) := by
  have requested := h.updRetention (f := fun r => { r with clamp := .requested i, clampReq := true })
    fun _ => by simp [State.clampReqFollows]
  exact requested.setEngineState.startClampWait (by simp [State.setEngineState])

theorem reachHold (h : s.KeepsBounds t) : s.KeepsBounds t.reachHold.1 := by
  unfold State.reachHold
  split
  · split
    · split
      · exact h.updActive.parkBridge
      · split
        · exact h.requestClamp
        · exact h.degrade
      · exact h
    · dsimp only
      split
      · exact h.discardFromHold
      · exact h.discardFromHold.waitAtHold
  · exact h

theorem buildSeparation (h : s.KeepsBounds t) {i c} : s.KeepsBounds (t.buildSeparation i c) := by
  unfold State.buildSeparation
  exact h.updCavity.updStore

theorem dismantle (h : s.KeepsBounds t) {i} : s.KeepsBounds (t.dismantle i) := by
  unfold State.dismantle
  split
  · exact ite h.updCavity.separationCeases h
  · exact h

/-! #### Chain starts and completions (Path.lean) -/

theorem activatePass (h : s.KeepsBounds t) {r} : s.KeepsBounds (t.activatePass r) := by
  unfold State.activatePass
  split
  · exact h.updActive
  · exact h

theorem chainBegin (h : s.KeepsBounds t) : s.KeepsBounds t.chainBegin.1 := by
  unfold State.chainBegin
  split
  · split
    · exact h.enterStarved
    · split
      · exact h.reachHold
      · exact h.setEngineState
  · exact h

theorem chainStart (h : s.KeepsBounds t) {r} : s.KeepsBounds (t.chainStart r).1 := by
  have started := h.updChain (r := r) (f := fun c => { c with depth := t.params.retrace })
    |>.activatePass (r := r) |>.updEngine (f := Engine.atStart r) |>.engage
  unfold State.chainStart
  dsimp only
  split
  · exact started.chainBegin
  · exact started.beginMove

theorem completeSteps (h : s.KeepsBounds t) {k} : s.KeepsBounds (t.completeSteps k) :=
  h.updActive.retireAll.updFloor.updActive.raise

theorem lastPassEnd (h : s.KeepsBounds t) : s.KeepsBounds t.lastPassEnd := by
  unfold State.lastPassEnd
  split
  · exact h.engineStop.beginSever
  · exact h.engineStop

theorem nextPass (h : s.KeepsBounds t) {k} : s.KeepsBounds (t.nextPass k).1 := by
  unfold State.nextPass
  split
  · split
    · split
      · exact h.updActive.chainStart
      · exact h.lastPassEnd
    · exact h.lastPassEnd
  · exact h

theorem completePasses (n : Nat) (h : s.KeepsBounds t) : s.KeepsBounds (State.completePasses n t) := by
  induction n generalizing t with
  | zero => exact h
  | succ n ih =>
    unfold State.completePasses
    split
    · exact ite (ih h.completeSteps.nextPass) h.completeSteps.nextPass
    · exact h

theorem settle {r : State × Bool} (h : s.KeepsBounds r.1) : s.KeepsBounds (settle r) := ite (h.completePasses _) h

theorem runChain (h : s.KeepsBounds t) {r} : s.KeepsBounds (t.runChain r) := settle h.chainStart
theorem dropEndedSeparation (h : s.KeepsBounds t) : s.KeepsBounds t.dropEndedSeparation := ite h.separationCeases h
theorem placeAtSeparationEnd (h : s.KeepsBounds t) {i} : s.KeepsBounds (t.placeAtSeparationEnd i) := ite h.updEngine h

theorem separationEnd (h : s.KeepsBounds t) : s.KeepsBounds t.separationEnd := by
  unfold State.separationEnd
  split
  · exact h.retireAll.dropEndedSeparation.engineStop.placeAtSeparationEnd.raise.beginSever
  · exact h

/-! #### The recovery unit (Recovery.lean) -/

theorem setStage (h : s.KeepsBounds t) {st} : s.KeepsBounds (t.setStage st) := h.updRecovery

theorem startOrPend (h : s.KeepsBounds t) {start : State → State} (started : s.KeepsBounds (start t)) :
    s.KeepsBounds (t.startOrPend start) := ite h.updRecovery started

theorem backToPass (h : s.KeepsBounds t) : s.KeepsBounds t.backToPass := by
  unfold State.backToPass
  split
  · exact h.updEngine.updFloor
  · exact h

theorem afterRestore (h : s.KeepsBounds t) : s.KeepsBounds t.afterRestore :=
  ite h.enterStarved (ite h.enterStarved (ite (settle h.reachHold) h))

theorem restore (h : s.KeepsBounds t) {i c o} : s.KeepsBounds (t.restore i c o) :=
  h.setCavState.endRecovery.updEngine.updFloor.engage.afterRestore

theorem completeBroken (h : s.KeepsBounds t) {i c o} : s.KeepsBounds (t.completeBroken i c o) :=
  ite (settle h.setCavState.endRecovery.updEngine.nextPass) (h.setCavState.endRecovery.updEngine.completePasses _)

theorem resumeNow (h : s.KeepsBounds t) : s.KeepsBounds t.resumeNow := by
  unfold State.resumeNow
  split
  · exact ite h.completeBroken h.restore
  · exact h

theorem beginResuming (h : s.KeepsBounds t) : s.KeepsBounds t.beginResuming := by
  unfold State.beginResuming
  split
  · exact ite h.resumeNow h.beginMove
  · exact h

theorem enterResuming (h : s.KeepsBounds t) : s.KeepsBounds t.enterResuming := h.setStage.startOrPend h.setStage.beginResuming
theorem rerouteEnd (h : s.KeepsBounds t) : s.KeepsBounds t.rerouteEnd :=
  h.retireAll.rerouteCeases.engineBroken.backToPass.enterResuming

theorem chainEnd (h : s.KeepsBounds t) : s.KeepsBounds t.chainEnd := by
  unfold State.chainEnd
  split
  · exact h.completePasses _
  · exact h.rerouteEnd
  · exact h.separationEnd
  · exact h

theorem holeArrived (h : s.KeepsBounds t) : s.KeepsBounds t.holeArrived := by
  unfold State.holeArrived
  split
  · exact h.setStage.beginThreading
  · exact h

theorem requestHole (h : s.KeepsBounds t) : s.KeepsBounds t.requestHole := by
  unfold State.requestHole
  split
  · exact ite h.holeArrived h.beginMove
  · exact h

theorem enterToHole (h : s.KeepsBounds t) : s.KeepsBounds t.enterToHole := h.setStage.startOrPend h.setStage.requestHole
theorem enterAwaitReroute (h : s.KeepsBounds t) : s.KeepsBounds t.enterAwaitReroute := h.setStage.raise

theorem startReroute (h : s.KeepsBounds t) : s.KeepsBounds t.startReroute := by
  unfold State.startReroute
  split
  · exact h.updActive.runChain
  · exact h

theorem enterReroute (h : s.KeepsBounds t) : s.KeepsBounds t.enterReroute := h.setStage.startOrPend h.setStage.startReroute

theorem stubDone (h : s.KeepsBounds t) : s.KeepsBounds t.stubDone := by
  unfold State.stubDone
  split
  · exact ite h.setStage.beginThreading h.enterToHole
  · exact h

theorem beginStub (h : s.KeepsBounds t) : s.KeepsBounds t.beginStub := by
  unfold State.beginStub
  split
  · exact h.beginSever
  · exact h

theorem kerfSuccess (h : s.KeepsBounds t) {attempts} : s.KeepsBounds (t.kerfSuccess attempts) := by
  unfold State.kerfSuccess
  dsimp only
  split
  · exact ite h.updRecovery.beginTraverse h.updRecovery.enterResuming
  · exact h.updRecovery

theorem kerfFailed (h : s.KeepsBounds t) {attempts} : s.KeepsBounds (t.kerfFailed attempts) := h.updRecovery
theorem afterWithdraw (h : s.KeepsBounds t) : s.KeepsBounds t.afterWithdraw := ite (h.startOrPend h.requestHole) h

theorem startPendingWork (h : s.KeepsBounds t) : s.KeepsBounds t.startPendingWork := by
  have h1 := h.updRecovery (f := fun r => { r with startPending := false })
  unfold State.startPendingWork
  dsimp only
  split
  · split
    · exact h1.beginStub
    · exact h1.requestHole
    · exact h1.startReroute
    · exact h1.beginResuming
    · exact h1
  · exact h

theorem endWork (h : s.KeepsBounds t) {w} : s.KeepsBounds (t.endWork w) := h.updThreading.updCavity

theorem handSuccess (h : s.KeepsBounds t) {w} : s.KeepsBounds (t.handSuccess w) := by
  unfold State.handSuccess
  split
  · split
    · exact h.setCavState.runChain
    · exact h
  · exact h.runChain
  · exact h.enterAwaitReroute
  · exact h.kerfSuccess

theorem handFailed (h : s.KeepsBounds t) {w} : s.KeepsBounds (t.handFailed w) := by
  unfold State.handFailed
  split
  · exact h.faultCavity.engineStop.raiseFor.faultPolicy
  · exact h.dismantle.setCavState.raiseFor.faultPolicy
  · exact h.faultCavity.engineStop.endRecovery.raiseFor.faultPolicy
  · exact h.kerfFailed

theorem attemptFailed (h : s.KeepsBounds t) {cause} : s.KeepsBounds (t.attemptFailed cause) := by
  unfold State.attemptFailed
  split
  · exact ite h.raise.beginWithdraw.endWork.handFailed h.raise.beginWithdraw
  · exact h

theorem breakLimitFault (h : s.KeepsBounds t) {i count} : s.KeepsBounds (t.breakLimitFault i count) := by
  have h1 := h.faultCavity (i := i) (reason := .breakLimit) |>.engineStop.endRecovery
    |>.threadingFault (cavity := i) |>.raiseFor (cavity := some i) (code := Event.breakLimit) (detail := count)
  unfold State.breakLimitFault
  dsimp only
  split
  · exact h1.requestSever
  · exact h1.faultPolicy

theorem firstBreak (h : s.KeepsBounds t) {i c k} : s.KeepsBounds (t.firstBreak i c k) := by
  have broken := h.engineBroken.wireBreak.withdrawRequest (i := i) |>.updCavity (i := i)
    (f := fun v => { v with breakCount := v.breakCount + 1 })
  exact ite broken.breakLimitFault (broken.setCavState.updRecovery.startOrPend broken.setCavState.updRecovery.beginStub)

theorem dropReroute (h : s.KeepsBounds t) : s.KeepsBounds t.dropReroute :=
  ite h.discardReroute.backToPass h.discardReroute

theorem breakAgain (h : s.KeepsBounds t) {i c} : s.KeepsBounds (t.breakAgain i c) := by
  have broken := h.engineBroken.wireBreak.dropReroute.updCavity (i := i)
    (f := fun v => { v with breakCount := v.breakCount + 1 })
  exact ite broken.breakLimitFault broken.updRecovery.enterToHole

theorem separationBreak (h : s.KeepsBounds t) {i} : s.KeepsBounds (t.separationBreak i) :=
  h.wireBreak.faultCavity.engineStop.threadingFault.requestSever

theorem takeBreak (h : s.KeepsBounds t) : s.KeepsBounds t.takeBreak := by
  unfold State.takeBreak
  split
  · split
    · split
      · exact h.firstBreak
      · exact h
    · exact ite h.breakAgain h
    · exact h.separationBreak
    · exact h
  · exact h

/-! #### Pause, resume, the hand-over, the sequencer, the close (Control.lean) -/

theorem suspendBlocks (h : s.KeepsBounds t) : s.KeepsBounds t.suspendBlocks :=
  h.stopHeartbeat.engineSuspend.updThreading.updRetention fun follows => follows

theorem addReason (h : s.KeepsBounds t) {add} : s.KeepsBounds (t.addReason add) := by
  unfold State.addReason
  split
  · exact h.updJob.suspendBlocks
  · exact h.updJob
  · exact h

theorem engineResumeTo (h : s.KeepsBounds t) {target} : s.KeepsBounds (t.engineResumeTo target) := h.updEngine

theorem restartClampWait (h : s.KeepsBounds t) : s.KeepsBounds t.restartClampWait := by
  unfold State.restartClampWait
  split
  · rename_i requested
    exact h.startClampWait (by simp [requested])
  · exact h

theorem engineRestart (h : s.KeepsBounds t) : s.KeepsBounds t.engineRestart := by
  unfold State.engineRestart
  split
  · exact ite (settle h.engineResumeTo.reachHold) h.engineResumeTo
  · split
    · exact settle h.engineResumeTo.nextPass
    · exact h.engineResumeTo
  · exact h.engineResumeTo.restartClampWait
  · exact h.engineResumeTo
  · exact h

theorem engineResume (h : s.KeepsBounds t) : s.KeepsBounds t.engineResume := by
  unfold State.engineResume
  split
  · exact h.servoReset.engineRestart
  · exact h

theorem resumeJob (h : s.KeepsBounds t) : s.KeepsBounds t.resumeJob :=
  h.updJob.startHeartbeat.engineResume.threadingRestart.startDeferred.startPendingWork

theorem removeReasons (h : s.KeepsBounds t) {remove} : s.KeepsBounds (t.removeReasons remove) := by
  unfold State.removeReasons
  split
  · exact ite h.resumeJob h.updJob
  · exact h

theorem pauseAction (h : s.KeepsBounds t) {code} : s.KeepsBounds (t.pauseAction code) := h.addReason

theorem hand (h : s.KeepsBounds t) {r} : s.KeepsBounds (t.hand r) := by
  have broken := ite (c := hasBreak r.actions = true) h.takeBreak h
  have halted := ite (c := hasHalt r.actions = true) (broken.haltJob (reason := .halted)) broken
  have paused := ite (c := hasPause r.actions = true) (halted.pauseAction (code := r.code)) halted
  exact paused.allOutputActions

theorem drainWith (n : Nat) (h : s.KeepsBounds t) : s.KeepsBounds (State.drainWith n t) := by
  induction n generalizing t with
  | zero => exact h.updRaised
  | succ n ih =>
    unfold State.drainWith
    split
    · exact ih h.updRaised.hand
    · exact h

theorem drain (h : s.KeepsBounds t) : s.KeepsBounds t.drain := h.drainWith _
theorem fillQueue (h : s.KeepsBounds t) : s.KeepsBounds t.fillQueue := ite h.updSepQueue h
theorem threadSelected (h : s.KeepsBounds t) {i} : s.KeepsBounds (t.threadSelected i) := h.beginThreading
theorem moveToSelected (h : s.KeepsBounds t) {i} : s.KeepsBounds (t.moveToSelected i) := ite h.threadSelected h.beginMove
theorem selectCutting (h : s.KeepsBounds t) {i} : s.KeepsBounds (t.selectCutting i) := h.setCavState.updCavity.moveToSelected

theorem selectSeparation (h : s.KeepsBounds t) {i} : s.KeepsBounds (t.selectSeparation i) := by
  unfold State.selectSeparation
  split
  · exact ite h.setCavState.updCavity.buildSeparation.moveToSelected h.setCavState.updCavity.faultCavity
  · exact h

theorem completeJob (h : s.KeepsBounds t) : s.KeepsBounds t.completeJob := h.updJob.stopHeartbeat.raiseFor

theorem select (h : s.KeepsBounds t) : s.KeepsBounds t.select := by
  unfold State.select
  dsimp only
  split
  · exact h.fillQueue.updSepQueue.selectSeparation
  · split
    · exact h.fillQueue.selectCutting
    · exact h.fillQueue.completeJob

theorem sequence (n : Nat) (h : s.KeepsBounds t) : s.KeepsBounds (State.sequence n t) := by
  induction n generalizing t with
  | zero => exact h
  | succ n ih => exact ite (ih h.select.drain) h

theorem finish (h : s.KeepsBounds t) {atReport} : s.KeepsBounds (t.finish atReport) :=
  (h.drain.sequence _).refreshGen.startTransmit

/-! #### One window (Window.lean) -/

theorem recommand (h : s.KeepsBounds t) : s.KeepsBounds t.recommand := by
  unfold State.recommand
  split
  · exact h.updEngine
  · exact h

theorem atStop (h : s.KeepsBounds t) {c} : s.KeepsBounds (t.atStop c) :=
  ite (settle h.reachHold) (ite (ite h.chainEnd h.enterStarved) h)

theorem applyStep (h : s.KeepsBounds t) {c step prev} : s.KeepsBounds (t.applyStep c step prev) := by
  have moved := h.updEngine (f := fun e => { e with p := e.p + step, h := max e.h (e.p + step), prevStep := prev, run := 0 })
  have engaged := ite (c := 0 < step) moved.engage moved
  have placed := (ite (c := t.engine.h < t.engine.p + step) engaged.advanceH engaged).recommand
  exact ite placed.atStop placed

theorem noDischarge (h : s.KeepsBounds t) : s.KeepsBounds t.noDischarge := h.updEngine.recommand
theorem retract (h : s.KeepsBounds t) {r cls} : s.KeepsBounds (t.retract r cls) :=
  ite h.updEngine.recommand.raise h.updEngine.updEngine.recommand
theorem forward (h : s.KeepsBounds t) {r cls c g} : s.KeepsBounds (t.forward r cls c g) := h.updEngine.applyStep
theorem cutWindow (h : s.KeepsBounds t) {r c g} : s.KeepsBounds (t.cutWindow r c g) :=
  ite h.noDischarge (ite h.retract h.forward)
theorem dryWindow (h : s.KeepsBounds t) {c g} : s.KeepsBounds (t.dryWindow c g) := h.updEngine.applyStep

theorem arrived (h : s.KeepsBounds t) {purpose back} : s.KeepsBounds (t.arrived purpose back) := by
  have h1 := h.updEngine (f := fun e => { e with move := none })
  unfold State.arrived
  dsimp only
  split
  · split
    · exact h1.setEngineState.threadSelected
    · exact h1.setEngineState
  · exact h1.setEngineState.positionArrived
  · exact h1.setEngineState.holeArrived
  · exact settle h1.setEngineState.chainBegin
  · exact h1.setEngineState.resumeNow

theorem moveWindow (h : s.KeepsBounds t) : s.KeepsBounds t.moveWindow := by
  unfold State.moveWindow
  split
  · exact ite h.updEngine.servoReset.arrived h.updEngine.servoReset
  · exact ite h.updEngine.recommand.servoReset.updEngine.enterResuming h.updEngine.recommand.servoReset
  · exact h

theorem engineWindow (h : s.KeepsBounds t) {r} : s.KeepsBounds (t.engineWindow r) := by
  unfold State.engineWindow
  split
  · exact h.moveWindow
  · split
    · exact ite h.cutWindow h.dryWindow
    · exact h
  · exact h

theorem genReport (h : s.KeepsBounds t) {r} : s.KeepsBounds (t.genReport r) := ite h.updGenWatch.raise h.updGenWatch
theorem sendSetPoint (h : s.KeepsBounds t) : s.KeepsBounds t.sendSetPoint := h.updEngine.updDriveWatch


/-! #### The link port (LinkPort.lean) -/

theorem answer (h : s.KeepsBounds t) {r d} : s.KeepsBounds (Answer.mk t r d).state := h
theorem refuse (h : s.KeepsBounds t) {r} : s.KeepsBounds (t.refuse r).state := h
theorem accept (h : s.KeepsBounds t) : s.KeepsBounds t.accept.state := h

theorem answered {c : Prop} [Decidable c] {a b : Answer} (h : s.KeepsBounds a.state) (g : s.KeepsBounds b.state) :
    s.KeepsBounds (if c then a else b).state := by
  split
  · exact h
  · exact g

theorem popRequest (h : s.KeepsBounds t) : s.KeepsBounds t.popRequest :=
  h.updLink (requests := fun hl => by simp only [List.length_tail]; omega)

theorem validFrame (h : s.KeepsBounds t) {f} : s.KeepsBounds (t.validFrame f) := by
  refine h.restartHeartbeat.updLink (requests := fun hl => ?_) (replies := ?_) (notices := fun hl => ?_)
  · split
    · simp only [List.length_append, List.length_singleton]
      exact ‹_ < Config.requestSlots›
    · exact hl
  · split
    · exact Nat.le_refl _
    · exact Nat.le_refl _
  · split
    · exact hl
    · exact hl

theorem checkFrame (h : s.KeepsBounds t) {got} : s.KeepsBounds (t.checkFrame got) := ite h.validFrame h

theorem receiveByte (h : s.KeepsBounds t) {b} : s.KeepsBounds (t.receiveByte b) := by
  unfold State.receiveByte
  refine ite h ?_
  split
  · exact ite h.updLink h
  · exact ite h.updLink (ite h.updLink.checkFrame h.updLink)

theorem receiveBytes (bytes : List Byte) (h : s.KeepsBounds t) : s.KeepsBounds (bytes.foldl State.receiveByte t) := by
  induction bytes generalizing t with
  | nil => exact h
  | cons b bytes ih => exact ih h.receiveByte

/-- The re-clamping brings every stored value under the ceilings written (R14). -/
theorem limitsWritten (h : s.KeepsBounds t) {l} : s.KeepsBounds ((t.updLimits fun _ => some l).reclamp l) :=
  { h with
    ceilings := fun _ l' hl => by
      obtain rfl : l = l' := Option.some.inj hl
      refine ⟨fun k => ?_, fun k => ?_, fun p hp => ?_⟩
      · have cap : ((t.updLimits fun _ => some l).reclamp l).feed[k] = FeedClass.clamped l t.feed[k] :=
          mapTable_getElem _ _ k.val k.isLt
        exact cap ▸ FeedClass.clamped_under l _
      · have profile : ((t.updLimits fun _ => some l).reclamp l).profiles[k] = Profile.clamped l t.profiles[k] :=
          mapTable_getElem _ _ k.val k.isLt
        exact profile ▸ Profile.clamped_under l _
      · obtain ⟨q, -, rfl⟩ := Option.map_eq_some_iff.1 hp
        exact JobParams.clamped_under l q }

/-! #### Feed classes and profiles (ConfigRequests.lean) -/

theorem setFeed (h : s.KeepsBounds t) {i : ClassIx} {c : FeedClass}
    (under : ∀ l, t.limits = some l → c.cap ≤ l.feedCeil) : s.KeepsBounds (t.updFeed fun v => v.set i.val c) :=
  { h with
    ceilings := fun hs l hl => by
      obtain ⟨hfeed, hprofiles, hparams⟩ := h.ceilings hs l hl
      refine ⟨fun k => ?_, hprofiles, hparams⟩
      simp only [State.updFeed_feed, Fin.getElem_fin, Vector.getElem_set]
      split
      · exact under l hl
      · exact hfeed k }

theorem setProfile (h : s.KeepsBounds t) {i : Fin 4} {p : Profile}
    (under : ∀ l, t.limits = some l →
      p.anneal ≤ l.annealCeil ∧ p.attempts ≤ l.attemptCeil ∧ p.jetBase ≤ l.jetCeil ∧ p.kerfJet ≤ l.jetCeil) :
    s.KeepsBounds (t.updProfiles fun v => v.set i.val p) :=
  { h with
    ceilings := fun hs l hl => by
      obtain ⟨hfeed, hprofiles, hparams⟩ := h.ceilings hs l hl
      refine ⟨hfeed, fun k => ?_, hparams⟩
      simp only [State.updProfiles_profiles, Fin.getElem_fin, Vector.getElem_set]
      split
      · exact under l hl
      · exact hprofiles k }

/-! #### The job table (JobRequests.lean) -/

/-- JOB_OPEN stores parameters that are lowered to the ceilings in force (R19). -/
theorem openJob (h : s.KeepsBounds t) {l p} (written : t.limits = some l) :
    s.KeepsBounds (t.openJob (JobParams.clamped l p)) := by
  have opened := h.updJobParams (f := fun _ =>
      { state := .loading, params := some (JobParams.clamped l p), reasons := Reasons.none, active := none })
    fun l' p' hl hp => by
      obtain rfl : l = l' := Option.some.inj (written.symm.trans hl)
      obtain rfl : JobParams.clamped l p = p' := Option.some.inj hp
      exact JobParams.clamped_under l p
  exact opened.updCavities.updRunOrder.updSepQueue.updStore

theorem startJob (h : s.KeepsBounds t) : s.KeepsBounds t.startJob := h.updJob.startHeartbeat

theorem clearJob (h : s.KeepsBounds t) : s.KeepsBounds t.clearJob :=
  (h.updJobParams fun _ _ _ hp => by cases hp).updCavities.updRunOrder.updSepQueue.updStore.servoReset.updThreading

theorem plan (h : s.KeepsBounds t) {p} : s.KeepsBounds (t.plan p) := h.updCavities.updRunOrder.updStore
theorem abandonActive (h : s.KeepsBounds t) {i} : s.KeepsBounds (t.abandonActive i) :=
  h.faultCavity.engineStop.endRecovery.threadingAbandon

theorem separate (h : s.KeepsBounds t) {i} : s.KeepsBounds (t.separate i).state := by
  unfold State.separate
  split
  · exact h
  · split
    · exact h
    · dsimp only
      split
      · exact h.updSepQueue.startJob.accept
      · exact h.updSepQueue.accept

/-! #### SEG_APPEND and SEG_REVISE (SegRequests.lean) -/

theorem takeSlot (h : s.KeepsBounds t) : s.KeepsBounds t.takeSlot := h.updStore

theorem putChain (h : s.KeepsBounds t) {i ref ch} : s.KeepsBounds (t.putChain i ref ch) := by
  unfold State.putChain
  split
  · exact h.updCavity
  · exact h.updStore

theorem leaveStarved (h : s.KeepsBounds t) : s.KeepsBounds t.leaveStarved :=
  ite (settle h.servoReset.reachHold) h.servoReset.setEngineState

theorem heardAppend (h : s.KeepsBounds t) : s.KeepsBounds t.heardAppend := by
  unfold State.heardAppend
  split
  · exact h.leaveStarved
  · exact ite h.updEngine h
  · exact h

theorem acceptQueued (h : s.KeepsBounds t) {p r ch g} : s.KeepsBounds (t.acceptQueued p r ch g) :=
  ite h.takeSlot.putChain.engage.heardAppend h.takeSlot.putChain

theorem closeReported (h : s.KeepsBounds t) {k} : s.KeepsBounds (t.closeReported k) :=
  ite h.updRecovery (ite h.completeSteps (h.completePasses _))

theorem acceptAtHold (h : s.KeepsBounds t) {p k r ch g} : s.KeepsBounds (t.acceptAtHold p k r ch g) := by
  have stored := ite (c := k = 0)
    (h.takeSlot.putChain (i := p.id) (ref := p.ref) (ch := ch.counted p.ref r g)
      |>.updCavity (i := p.id) (f := Cavity.push r g))
    (h.putChain (i := p.id) (ref := p.ref)
      (ch := { ch.counted p.ref r g with retired := (ch.counted p.ref r g).retired + 1 }))
  exact ite stored.closeReported stored

theorem acceptRecord (h : s.KeepsBounds t) {p r} : s.KeepsBounds (t.acceptRecord p r) := by
  unfold State.acceptRecord
  dsimp only
  split
  · exact ite h.acceptAtHold h.acceptQueued
  · exact ite h.acceptQueued.enterReroute h.acceptQueued

theorem appendOne (h : s.KeepsBounds t) {r} (accepted : t.appendOne r = .ok u) : s.KeepsBounds u := by
  unfold State.appendOne at accepted
  split at accepted
  · split at accepted
    · cases accepted
      exact h.acceptRecord.drain
    · cases accepted
  · cases accepted

theorem appendAll (h : s.KeepsBounds t) {rs n} : s.KeepsBounds (State.appendAll rs n t).state := by
  induction rs generalizing t n with
  | nil => exact h
  | cons r rs ih =>
    unfold State.appendAll
    split
    · exact ih (h.appendOne ‹_›)
    · exact h

theorem revise (h : s.KeepsBounds t) {i c payload} : s.KeepsBounds (t.revise i c payload).state := by
  unfold State.revise
  split
  · dsimp only
    exact answered h (answered h (answered h (answered h.putChain.accept h)))
  · exact h

/-! #### The maps (EventRequests.lean) -/

theorem writeMap (h : s.KeepsBounds t) {name code sent} :
    s.KeepsBounds (t.updMaps fun m => m.write name code (storedEntry code sent)) :=
  { h with locked := fun hs => EventMap.write_keepsLocked (h.locked hs) name code sent }

theorem swapMaps (h : s.KeepsBounds t) : s.KeepsBounds (t.updMaps fun m => { m with active := m.active.other }) :=
  { h with locked := fun hs name code => by cases name with
    | a => exact h.locked hs .a code
    | b => exact h.locked hs .b code }

/-! #### The threading unit's events (ThreadingEvents.lean) -/

theorem lastPassSevered (h : s.KeepsBounds t) {i} : s.KeepsBounds (t.lastPassSevered i) := by
  unfold State.lastPassSevered
  split
  · exact ite h.setCavState.freePasses h.doneCavity
  · exact h

theorem firstAttempt (h : s.KeepsBounds t) : s.KeepsBounds t.firstAttempt := by
  unfold State.firstAttempt
  split
  · exact h.beginAttempt
  · exact h

theorem handSevered (h : s.KeepsBounds t) {v} : s.KeepsBounds (t.handSevered v) := by
  unfold State.handSevered
  split
  · exact h.lastPassSevered
  · exact h.doneCavity
  · exact h.firstAttempt
  · exact h.stubDone
  · exact h

theorem severEnd (h : s.KeepsBounds t) {v} : s.KeepsBounds (t.severEnd v) := h.updThreading.handSevered

theorem severHome (h : s.KeepsBounds t) {v} : s.KeepsBounds (t.severHome v) := by
  unfold State.severHome
  split
  · exact h.severWithdrawPhase
  · exact h.severEnd

theorem startHomeWait (h : s.KeepsBounds t) : s.KeepsBounds t.startHomeWait := h.updThreading
theorem readHome (h : s.KeepsBounds t) {home} : s.KeepsBounds (t.readHome home) := h.updPins
theorem cutterStuck (h : s.KeepsBounds t) {restart detail} : s.KeepsBounds (t.cutterStuck restart detail) :=
  h.updThreading.raise

theorem withdrawn (h : s.KeepsBounds t) {w} : s.KeepsBounds (t.withdrawn w) := by
  have h1 := h.updThreading (f := fun v => { v with withdraw := none, timer := none, out := .off })
  unfold State.withdrawn
  dsimp only
  split
  · exact h1.updThreading
  · exact h1.updThreading
  · split
    · exact h1.beginAttempt
    · exact h1.updThreading

end State.KeepsBounds

/-! ### A step keeps the four invariants -/

/-- The four invariants of StepKeepsBoundsAndLocks, each kept by itself, from `s` to `t`. -/
structure State.KeepsInvariants (s t : State) : Prop where
  lists : s.listsBounded → t.listsBounded
  clampReq : s.clampReqFollows → t.clampReqFollows
  locked : s.maps.keepsLocked → t.maps.keepsLocked
  ceilings : s.underCeilings → t.underCeilings

theorem State.KeepsBounds.invariants {s t : State} (h : s.KeepsBounds t) : s.KeepsInvariants t where
  lists := fun ⟨hrequests, hreplies, hnotices, hlog⟩ =>
    ⟨h.requests hrequests, Nat.le_trans h.replies hreplies, h.notices hnotices, h.log hlog⟩
  clampReq := h.clampReq
  locked := h.locked
  ceilings := h.ceilings

theorem State.KeepsInvariants.trans {s t u : State} (h : s.KeepsInvariants t) (g : t.KeepsInvariants u) :
    s.KeepsInvariants u where
  lists := g.lists ∘ h.lists
  clampReq := g.clampReq ∘ h.clampReq
  locked := g.locked ∘ h.locked
  ceilings := g.ceilings ∘ h.ceilings

/-! #### The power-on state meets them -/

/-- The default entries are built from the locked sets (R159, R160). -/
theorem defaultEntry_and_lockedSet : ∀ code : Code, defaultEntry code.val &&& lockedSet code.val = lockedSet code.val := by
  decide

theorem defaultMap_getElem (code : Code) : defaultMap[code] = defaultEntry code.val := by simp [defaultMap]

theorem powerOnState_listsBounded (pending power pins rate) :
    (State.powerOnState pending power pins rate).listsBounded := by
  simp [State.powerOnState, State.listsBounded]

theorem powerOnState_clampReqFollows (pending power pins rate) :
    (State.powerOnState pending power pins rate).clampReqFollows := by
  simp [State.powerOnState, State.clampReqFollows]

theorem powerOnState_keepsLocked (pending power pins rate) :
    (State.powerOnState pending power pins rate).maps.keepsLocked := by
  intro name code
  have entry : (State.powerOnState pending power pins rate).maps.entry name code = defaultEntry code.val := by
    cases name <;> exact defaultMap_getElem code
  rw [entry]
  exact defaultEntry_and_lockedSet code

theorem powerOnState_underCeilings (pending power pins rate) :
    (State.powerOnState pending power pins rate).underCeilings := fun _ hl => by cases hl

theorem keepsInvariants_powerOnState (s : State) (pending power pins rate) :
    s.KeepsInvariants (State.powerOnState pending power pins rate) where
  lists _ := powerOnState_listsBounded ..
  clampReq _ := powerOnState_clampReqFollows ..
  locked _ := powerOnState_keepsLocked pending power pins rate
  ceilings _ := powerOnState_underCeilings pending power pins rate

theorem keepsInvariants_beginOperation (s : State) (pins rate) : s.KeepsInvariants (s.beginOperation pins rate) :=
  (keepsInvariants_powerOnState s s.pending ⟨true, true⟩ pins rate).trans
    ((State.keepsSelf _).updGenWatch (f := fun _ => { timer := some Config.silenceTime, latch := false })).invariants

/-! #### Commands -/

/-- Every next state that the outcome answers is one that `s` reaches without breaking an invariant. -/
def Keeping (s : State) (o : Host.Outcome State Fault Refusal) : Prop := ∀ t, o = .next t → s.KeepsInvariants t

theorem keeping_next {s t : State} (h : s.KeepsInvariants t) : Keeping s (.next t) := by
  rintro _ ⟨⟩
  exact h

theorem keeping_whenOperating {s : State} {f : State → State} (h : s.KeepsBounds (f s)) :
    Keeping s (s.whenOperating f) := keeping_next (State.KeepsBounds.ite h s.keepsSelf).invariants

/-- A decided request's reply finds room, since its owner adds none (R4, R6). -/
theorem keepsInvariants_decided {s : State} {kind tag : Byte} {payload : List Byte} {owner : State → Answer}
    (decides : s.decides kind tag payload = true) (h : s.KeepsBounds (owner s.popRequest).state) :
    s.KeepsInvariants (s.decided kind tag owner) := by
  have room : s.link.replies.length < 4 := by
    simp only [State.decides, Bool.and_eq_true, decide_eq_true_eq] at decides
    exact decides.2
  have replied : s.KeepsInvariants ((owner s.popRequest).reply kind tag) :=
    { h.invariants with
      lists := fun hs => by
        obtain ⟨hrequests, -, hnotices, hlog⟩ := h.invariants.lists hs
        refine ⟨hrequests, ?_, hnotices, hlog⟩
        simp only [Answer.reply, State.updLink_link, List.length_append, List.length_singleton]
        exact Nat.lt_of_le_of_lt h.replies room }
  exact replied.trans (State.keepsSelf _).finish.invariants

theorem keeping_request {s : State} {kind tag : Byte} {payload : List Byte} {permitted : Bool} {owner : State → Answer}
    (h : ∀ t : State, t.KeepsBounds (owner t).state) : Keeping s (s.request kind tag payload permitted owner) := by
  refine keeping_next ?_
  split
  · refine keepsInvariants_decided ‹_› (s.keepsSelf.popRequest.trans ?_)
    split
    · exact h _
    · exact State.keepsSelf _
  · exact s.keepsSelf.invariants

/-! #### The link port's commands -/

open State.KeepsBounds (ite answered)

theorem keeping_powerOn (resetN pins s) : Keeping s (execPowerOn resetN pins s) := by
  refine keeping_next ?_
  split
  · exact keepsInvariants_beginOperation ..
  · exact keepsInvariants_powerOnState s s.pending ⟨true, false⟩ s.pins s.link.rate

theorem keeping_resetNAssert (s) : Keeping s (execResetNAssert s) := keeping_next (keepsInvariants_powerOnState ..)

theorem keeping_resetNRelease (pins s) : Keeping s (execResetNRelease pins s) := by
  refine keeping_next ?_
  split
  · exact s.keepsSelf.invariants
  · split
    · exact keepsInvariants_beginOperation ..
    · exact State.KeepsBounds.invariants { s.keepsSelf with }

theorem keeping_receivedByte (b e s) : Keeping s (execReceivedByte b e s) := keeping_whenOperating s.keepsSelf.receiveByte
theorem keeping_frameReceive (bs s) : Keeping s (execFrameReceive bs s) := keeping_whenOperating (s.keepsSelf.receiveBytes bs)
theorem keeping_interByteGapExpiry (s) : Keeping s (execInterByteGapExpiry s) :=
  keeping_whenOperating (ite s.keepsSelf.updLink s.keepsSelf)

theorem keeping_frameTransmitEnd (s) : Keeping s (execFrameTransmitEnd s) := by
  refine keeping_next ?_
  dsimp only
  split
  · split
    · split
      · exact keepsInvariants_beginOperation ..
      · exact s.keepsSelf.updLink.startTransmit.invariants
    · exact s.keepsSelf.invariants
  · exact s.keepsSelf.invariants

theorem keeping_unknownKindRequest (k g p s) : Keeping s (execUnknownKindRequest k g p s) := by
  refine keeping_next ?_
  split
  · exact s.keepsSelf.invariants
  · split
    · exact keepsInvariants_decided ‹_› s.keepsSelf.popRequest
    · exact s.keepsSelf.invariants

theorem keeping_status (g p s) : Keeping s (execStatus g p s) := keeping_request State.keepsSelf
theorem keeping_reset (g p s) : Keeping s (execReset g p s) :=
  keeping_request fun t =>
    (t.keepsSelf.updLink (f := fun l => { l with requests := [], resetting := true })
      (requests := fun _ => Nat.zero_le 4)).accept

theorem keeping_limitsSet (service g p s) : Keeping s (execLimitsSet service g p s) :=
  keeping_request fun t => answered t.keepsSelf.updPins.refuse
    (answered t.keepsSelf.updPins.refuse t.keepsSelf.updPins.limitsWritten.accept)

theorem keeping_limitsGet (g p s) : Keeping s (execLimitsGet g p s) := by
  refine keeping_request fun t => ?_
  split
  · exact t.keepsSelf
  · exact t.keepsSelf

theorem keeping_heartbeatExpiry (s) : Keeping s (execHeartbeatExpiry s) :=
  keeping_whenOperating (ite s.keepsSelf.stopHeartbeat.raise.finish s.keepsSelf)

/-! #### Feed classes, override, profiles -/

theorem keeping_feedClassSet (g p s) : Keeping s (execFeedClassSet g p s) := by
  refine keeping_request fun t => ?_
  split
  · dsimp only
    split
    · refine t.keepsSelf.setFeed fun l hl => ?_
      rw [hl]
      exact FeedClass.clamped_under l _
    · exact t.keepsSelf
  · exact t.keepsSelf

theorem keeping_feedClassGet (g p s) : Keeping s (execFeedClassGet g p s) := by
  refine keeping_request fun t => ?_
  split
  · exact t.keepsSelf
  · exact t.keepsSelf

theorem keeping_overrideSet (g p s) : Keeping s (execOverrideSet g p s) := by
  refine keeping_request fun t => ?_
  split
  · exact t.keepsSelf.updFeedOverride.answer
  · exact t.keepsSelf

theorem keeping_threadProfileSet (g p s) : Keeping s (execThreadProfileSet g p s) := by
  refine keeping_request fun t => ?_
  split
  · dsimp only
    split
    · refine t.keepsSelf.setProfile fun l hl => ?_
      rw [hl]
      exact Profile.clamped_under l _
    · exact t.keepsSelf
  · exact t.keepsSelf

theorem keeping_threadProfileGet (g p s) : Keeping s (execThreadProfileGet g p s) := by
  refine keeping_request fun t => ?_
  split
  · exact t.keepsSelf
  · exact t.keepsSelf

/-! #### The job table's requests -/

theorem keeping_jobOpen (g p s) : Keeping s (execJobOpen g p s) := by
  refine keeping_request fun t => ?_
  split
  · split
    · exact t.keepsSelf.openJob ‹_›
    · exact t.keepsSelf
  · exact t.keepsSelf
  · exact t.keepsSelf

theorem keeping_jobStart (g p s) : Keeping s (execJobStart g p s) :=
  keeping_request fun t =>
    answered t.keepsSelf (answered t.keepsSelf (answered t.keepsSelf t.keepsSelf.startJob.accept))

theorem keeping_jobPause (g p s) : Keeping s (execJobPause g p s) := by
  refine keeping_request fun t => ?_
  split
  · exact t.keepsSelf.addReason.accept
  · exact t.keepsSelf.addReason.accept
  · exact t.keepsSelf

theorem keeping_jobResume (g p s) : Keeping s (execJobResume g p s) := by
  refine keeping_request fun t => ?_
  split
  · exact t.keepsSelf
  · split
    · exact t.keepsSelf
    · exact t.keepsSelf.removeReasons.accept
  · exact t.keepsSelf

theorem keeping_jobAbort (g p s) : Keeping s (execJobAbort g p s) := by
  refine keeping_request fun t => ?_
  split
  · exact t.keepsSelf.haltJob.accept
  · exact t.keepsSelf.haltJob.accept
  · exact t.keepsSelf

theorem keeping_jobClear (g p s) : Keeping s (execJobClear g p s) := by
  refine keeping_request fun t => ?_
  split
  iterate 3 · exact t.keepsSelf
  · split
    · exact t.keepsSelf
    · exact t.keepsSelf.clearJob.accept

theorem keeping_cavityPlan (g p s) : Keeping s (execCavityPlan g p s) := by
  refine keeping_request fun t => ?_
  split
  iterate 3
    · split
      · exact answered t.keepsSelf (answered t.keepsSelf (answered t.keepsSelf t.keepsSelf.plan.accept))
      · exact t.keepsSelf
  · exact t.keepsSelf

theorem keeping_cavityMove (g p s) : Keeping s (execCavityMove g p s) := by
  refine keeping_request fun t => ?_
  split
  · split
    · split
      · exact t.keepsSelf.updRunOrder.accept
      · exact t.keepsSelf
    · exact t.keepsSelf
  · exact t.keepsSelf

theorem keeping_cavityAbandon (g p s) : Keeping s (execCavityAbandon g p s) := by
  refine keeping_request fun t => ?_
  split
  · split
    · split
      · exact t.keepsSelf.skipCavity.accept
      · exact t.keepsSelf.faultCavity.accept
      iterate 4 · exact t.keepsSelf.abandonActive.accept
      iterate 3 · exact t.keepsSelf
    · exact t.keepsSelf
  · exact t.keepsSelf

theorem keeping_cavityQuery (g p s) : Keeping s (execCavityQuery g p s) := by
  refine keeping_request fun t => ?_
  split
  · split
    · exact t.keepsSelf
    · exact t.keepsSelf
  · exact t.keepsSelf

theorem keeping_separate (g p s) : Keeping s (execSeparate g p s) := by
  refine keeping_request fun t => ?_
  split
  · exact t.keepsSelf
  · split
    · split
      · split
        · exact t.keepsSelf.separate
        · exact t.keepsSelf
      · exact t.keepsSelf
    · exact t.keepsSelf

theorem keeping_slugRelease (g p s) : Keeping s (execSlugRelease g p s) := by
  refine keeping_request fun t => ?_
  split
  · split
    · split
      · exact (t.keepsSelf.updRetention fun _ => by simp [State.clampReqFollows]).accept
      · exact t.keepsSelf
    · exact t.keepsSelf
  · exact t.keepsSelf

/-! #### SEG_APPEND and SEG_REVISE -/

theorem keeping_segAppend (g p s) : Keeping s (execSegAppend g p s) := by
  refine keeping_request fun t => ?_
  split
  · exact t.keepsSelf.appendAll
  · exact t.keepsSelf

theorem keeping_segRevise (g p s) : Keeping s (execSegRevise g p s) := by
  refine keeping_request fun t => ?_
  split
  · exact t.keepsSelf
  · split
    · split
      · split
        · exact t.keepsSelf
        · exact t.keepsSelf.revise
      · exact t.keepsSelf
    · exact t.keepsSelf

/-! #### Maps, channels, interlock, clock, log -/

theorem keeping_mapWrite (g p s) : Keeping s (execMapWrite g p s) := by
  refine keeping_request fun t => ?_
  split
  · exact answered t.keepsSelf (answered t.keepsSelf t.keepsSelf.writeMap.accept)
  · exact t.keepsSelf

theorem keeping_mapRead (g p s) : Keeping s (execMapRead g p s) := by
  refine keeping_request fun t => ?_
  split
  · exact t.keepsSelf
  · exact t.keepsSelf

theorem keeping_mapSwap (g p s) : Keeping s (execMapSwap g p s) := keeping_request fun t => t.keepsSelf.swapMaps

theorem keeping_eventInject (g p s) : Keeping s (execEventInject g p s) := by
  refine keeping_request fun t => ?_
  split
  · exact t.keepsSelf.raise.accept
  · exact t.keepsSelf

theorem keeping_channelSet (g p s) : Keeping s (execChannelSet g p s) := by
  refine keeping_request fun t => ?_
  split
  · split
    · exact t.keepsSelf
    · exact t.keepsSelf.updChannels.accept
  · exact t.keepsSelf

theorem keeping_channelGet (g p s) : Keeping s (execChannelGet g p s) := by
  refine keeping_request fun t => ?_
  split
  · exact t.keepsSelf
  · exact t.keepsSelf

theorem keeping_pulseDelayExpiry (ch s) : Keeping s (execPulseDelayExpiry ch s) := keeping_whenOperating s.keepsSelf.updChannels
theorem keeping_pulseWidthExpiry (ch s) : Keeping s (execPulseWidthExpiry ch s) := keeping_whenOperating s.keepsSelf.updChannels

theorem keeping_interlockClear (g p s) : Keeping s (execInterlockClear g p s) := by
  refine keeping_request fun t => ?_
  split
  · exact t.keepsSelf.updInterlock.removeReasons.accept
  · exact t.keepsSelf

theorem keeping_interlockMode (g p s) : Keeping s (execInterlockMode g p s) := by
  refine keeping_request fun t => ?_
  split
  iterate 2
    · split
      · exact t.keepsSelf.updInterlock.accept
      · exact t.keepsSelf.updInterlock.accept
      · exact t.keepsSelf
  · exact t.keepsSelf

theorem keeping_clockSet (g p s) : Keeping s (execClockSet g p s) := keeping_request fun t => t.keepsSelf.updClock.accept

theorem keeping_logRead (g p s) : Keeping s (execLogRead g p s) := by
  refine keeping_request fun t => ?_
  dsimp only
  split
  · exact t.keepsSelf.updLog fun hl => by simp only [List.length_drop]; omega
  · exact t.keepsSelf

theorem keeping_jobClockAdvance (s) : Keeping s (execJobClockAdvance s) := keeping_whenOperating s.keepsSelf.updClock

/-! #### The generator port, the motion port, the pacing timer -/

theorem keeping_windowReport (msg s) : Keeping s (execWindowReport msg s) := by
  refine keeping_whenOperating ?_
  split
  · exact s.keepsSelf.genReport.engineWindow.sendSetPoint.finish
  · exact s.keepsSelf

theorem keeping_genSilenceExpiry (s) : Keeping s (execGenSilenceExpiry s) :=
  keeping_whenOperating
    (ite (ite s.keepsSelf.updGenWatch s.keepsSelf.updGenWatch.raise).finish s.keepsSelf)

theorem keeping_driveReply (msg s) : Keeping s (execDriveReply msg s) := by
  refine keeping_whenOperating ?_
  split
  · rename_i r _
    have tracked := ite (c := s.tracking = true) (s.keepsSelf.updEngine (f := fun e => { e with commanded := r.pos }))
      s.keepsSelf
    exact (ite tracked.updDriveWatch.raise tracked.updDriveWatch).finish
  · exact s.keepsSelf

theorem keeping_driveReplyTimerExpiry (s) : Keeping s (execDriveReplyTimerExpiry s) :=
  keeping_whenOperating
    (ite (ite s.keepsSelf.updDriveWatch s.keepsSelf.updDriveWatch.raise).finish s.keepsSelf)

theorem keeping_pacingTimerExpiry (s) : Keeping s (execPacingTimerExpiry s) := by
  refine keeping_whenOperating (ite (State.KeepsBounds.finish ?_) s.keepsSelf)
  split
  · exact s.keepsSelf.updStore.offer
  · exact s.keepsSelf.updStore

/-! #### The threading unit's events -/

theorem keeping_annealExpiry (s) : Keeping s (execAnnealExpiry s) := by
  refine keeping_whenOperating ?_
  split
  · exact s.keepsSelf.beginTrim.finish
  · exact s.keepsSelf

theorem keeping_trimPulseEnd (home s) : Keeping s (execTrimPulseEnd home s) :=
  keeping_whenOperating
    (ite (ite s.keepsSelf.readHome.beginPosition s.keepsSelf.readHome.startHomeWait).finish s.keepsSelf)

theorem keeping_severPulseEnd (home s) : Keeping s (execSeverPulseEnd home s) := by
  refine keeping_whenOperating ?_
  split
  · exact (ite s.keepsSelf.readHome.severHome s.keepsSelf.readHome.startHomeWait).finish
  · exact s.keepsSelf

theorem keeping_severWithdrawExpiry (s) : Keeping s (execSeverWithdrawExpiry s) := by
  refine keeping_whenOperating ?_
  split
  · exact s.keepsSelf.severEnd.finish
  · exact s.keepsSelf

theorem keeping_cutterHomeTimeout (s) : Keeping s (execCutterHomeTimeout s) := by
  refine keeping_whenOperating (ite s.keepsSelf.cutterStuck.finish ?_)
  split
  · exact s.keepsSelf.cutterStuck.finish
  · exact s.keepsSelf

theorem keeping_passTimeout (s) : Keeping s (execPassTimeout s) :=
  keeping_whenOperating (ite s.keepsSelf.attemptFailed.finish s.keepsSelf)

theorem keeping_tensionTimeout (s) : Keeping s (execTensionTimeout s) :=
  keeping_whenOperating (ite s.keepsSelf.attemptFailed.finish s.keepsSelf)

theorem keeping_withdrawExpiry (s) : Keeping s (execWithdrawExpiry s) := by
  refine keeping_whenOperating ?_
  split
  · exact s.keepsSelf.withdrawn.afterWithdraw.finish
  · exact s.keepsSelf

theorem keeping_cutterHomeRise (s) : Keeping s (execCutterHomeRise s) := by
  have raised := s.keepsSelf.updPins (f := fun p => { p with cutterHome := true }) |>.raise (code := Event.cutterHome)
    (detail := 0)
  refine keeping_whenOperating (State.KeepsBounds.finish (ite raised.beginPosition ?_))
  split
  · exact raised.severHome
  · exact raised

theorem keeping_passSenseRise (s) : Keeping s (execPassSenseRise s) :=
  keeping_whenOperating (ite s.keepsSelf.updPins.beginTension s.keepsSelf.updPins).raise.finish

theorem keeping_tensionSenseRise (s) : Keeping s (execTensionSenseRise s) := by
  refine keeping_whenOperating (State.KeepsBounds.finish ?_)
  split
  · exact s.keepsSelf.updPins.updThreading.raise.endWork.handSuccess
  · exact s.keepsSelf.updPins.raise

theorem keeping_tensionSenseFall (s) : Keeping s (execTensionSenseFall s) :=
  keeping_whenOperating (ite s.keepsSelf.updPins.raise s.keepsSelf.updPins).finish

/-! #### The clamp, the interlock, the event map's inputs -/

theorem keeping_clampSenseRise (s) : Keeping s (execClampSenseRise s) := by
  refine keeping_whenOperating (State.KeepsBounds.finish ?_)
  split
  · rename_i requested
    exact (s.keepsSelf.updPins.confirmClamp (by simp [requested])).raise
  · exact s.keepsSelf.updPins.raise

theorem keeping_clampSenseFall (s) : Keeping s (execClampSenseFall s) := by
  refine keeping_whenOperating (State.KeepsBounds.finish ?_)
  split
  · exact s.keepsSelf.updPins.raise
  · exact s.keepsSelf.updPins

theorem keeping_clampWaitExpiry (s) : Keeping s (execClampWaitExpiry s) := by
  refine keeping_whenOperating ?_
  split
  · exact (State.KeepsBounds.settle s.keepsSelf.freedClamp.degrade).finish
  · exact s.keepsSelf

theorem keeping_interlockFall (s) : Keeping s (execInterlockFall s) :=
  keeping_whenOperating s.keepsSelf.updPins.updInterlock.addReason.raise.finish

theorem keeping_interlockRise (s) : Keeping s (execInterlockRise s) := by
  refine keeping_whenOperating (State.KeepsBounds.finish ?_)
  split
  · exact s.keepsSelf.updPins.removeReasons.raise
  · exact s.keepsSelf.updPins.raise

theorem keeping_dielectricOkFall (s) : Keeping s (execDielectricOkFall s) :=
  keeping_whenOperating s.keepsSelf.updPins.raise.finish
theorem keeping_spoolLowRise (s) : Keeping s (execSpoolLowRise s) := keeping_whenOperating s.keepsSelf.updPins.raise.finish
theorem keeping_extInEdge (n rising s) : Keeping s (execExtInEdge n rising s) :=
  keeping_whenOperating s.keepsSelf.updPins.raise.finish

/-! #### Every command, and the step -/

theorem keeping_exec (c : Instr) (s : State) : Keeping s (exec c s) := by
  cases c with
  | powerOn resetN pins => exact keeping_powerOn resetN pins s
  | resetNAssert => exact keeping_resetNAssert s
  | resetNRelease pins => exact keeping_resetNRelease pins s
  | frameReceive bytes => exact keeping_frameReceive bytes s
  | interByteGapExpiry => exact keeping_interByteGapExpiry s
  | frameTransmitEnd => exact keeping_frameTransmitEnd s
  | unknownKindRequest kind tag payload => exact keeping_unknownKindRequest kind tag payload s
  | status tag payload => exact keeping_status tag payload s
  | reset tag payload => exact keeping_reset tag payload s
  | limitsSet service tag payload => exact keeping_limitsSet service tag payload s
  | limitsGet tag payload => exact keeping_limitsGet tag payload s
  | feedClassSet tag payload => exact keeping_feedClassSet tag payload s
  | feedClassGet tag payload => exact keeping_feedClassGet tag payload s
  | overrideSet tag payload => exact keeping_overrideSet tag payload s
  | threadProfileSet tag payload => exact keeping_threadProfileSet tag payload s
  | threadProfileGet tag payload => exact keeping_threadProfileGet tag payload s
  | jobOpen tag payload => exact keeping_jobOpen tag payload s
  | jobStart tag payload => exact keeping_jobStart tag payload s
  | jobPause tag payload => exact keeping_jobPause tag payload s
  | jobResume tag payload => exact keeping_jobResume tag payload s
  | jobAbort tag payload => exact keeping_jobAbort tag payload s
  | jobClear tag payload => exact keeping_jobClear tag payload s
  | cavityPlan tag payload => exact keeping_cavityPlan tag payload s
  | cavityMove tag payload => exact keeping_cavityMove tag payload s
  | cavityAbandon tag payload => exact keeping_cavityAbandon tag payload s
  | cavityQuery tag payload => exact keeping_cavityQuery tag payload s
  | segAppend tag payload => exact keeping_segAppend tag payload s
  | segRevise tag payload => exact keeping_segRevise tag payload s
  | separate tag payload => exact keeping_separate tag payload s
  | slugRelease tag payload => exact keeping_slugRelease tag payload s
  | mapWrite tag payload => exact keeping_mapWrite tag payload s
  | mapRead tag payload => exact keeping_mapRead tag payload s
  | mapSwap tag payload => exact keeping_mapSwap tag payload s
  | eventInject tag payload => exact keeping_eventInject tag payload s
  | channelSet tag payload => exact keeping_channelSet tag payload s
  | channelGet tag payload => exact keeping_channelGet tag payload s
  | interlockClear tag payload => exact keeping_interlockClear tag payload s
  | interlockMode tag payload => exact keeping_interlockMode tag payload s
  | clockSet tag payload => exact keeping_clockSet tag payload s
  | logRead tag payload => exact keeping_logRead tag payload s
  | heartbeatExpiry => exact keeping_heartbeatExpiry s
  | windowReport msg => exact keeping_windowReport msg s
  | genSilenceExpiry => exact keeping_genSilenceExpiry s
  | driveReply msg => exact keeping_driveReply msg s
  | driveReplyTimerExpiry => exact keeping_driveReplyTimerExpiry s
  | annealExpiry => exact keeping_annealExpiry s
  | trimPulseEnd home => exact keeping_trimPulseEnd home s
  | cutterHomeRise => exact keeping_cutterHomeRise s
  | cutterHomeTimeout => exact keeping_cutterHomeTimeout s
  | passSenseRise => exact keeping_passSenseRise s
  | passTimeout => exact keeping_passTimeout s
  | tensionSenseRise => exact keeping_tensionSenseRise s
  | tensionTimeout => exact keeping_tensionTimeout s
  | withdrawExpiry => exact keeping_withdrawExpiry s
  | severPulseEnd home => exact keeping_severPulseEnd home s
  | severWithdrawExpiry => exact keeping_severWithdrawExpiry s
  | tensionSenseFall => exact keeping_tensionSenseFall s
  | clampSenseRise => exact keeping_clampSenseRise s
  | clampSenseFall => exact keeping_clampSenseFall s
  | clampWaitExpiry => exact keeping_clampWaitExpiry s
  | interlockFall => exact keeping_interlockFall s
  | interlockRise => exact keeping_interlockRise s
  | dielectricOkFall => exact keeping_dielectricOkFall s
  | spoolLowRise => exact keeping_spoolLowRise s
  | extInEdge n rising => exact keeping_extInEdge n rising s
  | pulseDelayExpiry ch => exact keeping_pulseDelayExpiry ch s
  | pulseWidthExpiry ch => exact keeping_pulseWidthExpiry ch s
  | pacingTimerExpiry => exact keeping_pacingTimerExpiry s
  | jobClockAdvance => exact keeping_jobClockAdvance s
  | receivedByte data framingError => exact keeping_receivedByte data framingError s

/-- Taking a command from the queue touches none of what the invariants speak of. -/
theorem keeping_step (s : State) : Keeping s (step s) := by
  unfold step
  split
  · rename_i c rest _
    have taken : s.KeepsBounds (s.withPending rest) := { s.keepsSelf with }
    exact fun t ht => taken.invariants.trans (keeping_exec c (s.withPending rest) t ht)
  · exact keeping_next s.keepsSelf.invariants

/-- Settles O57: every operation of the model keeps the four invariants, so every command and every step does. -/
theorem stepKeepsBoundsAndLocks : Obligations.StepKeepsBoundsAndLocks :=
  ⟨fun s t hs ht => (keeping_step s t ht).lists hs, fun s t hs ht => (keeping_step s t ht).clampReq hs,
    fun s t hs ht => (keeping_step s t ht).locked hs, fun s t hs ht => (keeping_step s t ht).ceilings hs⟩

end Sys2Proof.Machine

namespace Sys2Proof.Machine

/-! ### The state after reset (O2, O56) -/

/-- No cavity has a record after reset (R16). -/
theorem reset_cavity (i : CavityId) : State.reset.cavity i = none := by simp [State.reset, State.powerOnState, State.cavity]

/-- Settles O2: the power-on state of the model has the values that the reset rules state. -/
theorem resetValuesAreAsStated : Obligations.ResetValuesAreAsStated := by
  have feed (k : ClassIx) : State.reset.feed[k] = FeedClass.default := by simp [State.reset, State.powerOnState]
  have profiles (k : Fin 4) : State.reset.profiles[k] = Profile.default := by simp [State.reset, State.powerOnState]
  have entries (c : Code) :
      State.reset.maps.entry .a c = defaultEntry c.val ∧ State.reset.maps.entry .b c = defaultEntry c.val :=
    ⟨defaultMap_getElem c, defaultMap_getElem c⟩
  have channels (n : Fin 4) : State.reset.channels[n] = Channel.default := by simp [State.reset, State.powerOnState]
  have levels (n : Fin 4) : State.reset.levels[n] = false := by simp [State.reset, State.powerOnState]
  exact ⟨⟨rfl, rfl, rfl, rfl, rfl, rfl, rfl⟩, ⟨rfl, rfl, rfl, reset_cavity, rfl, rfl⟩, ⟨rfl, rfl, rfl, rfl⟩,
    ⟨rfl, rfl, rfl, rfl, rfl, rfl, rfl, rfl, rfl, rfl⟩, ⟨feed, rfl, rfl, rfl⟩,
    ⟨profiles, rfl, rfl, rfl, rfl, rfl, rfl, rfl⟩, ⟨rfl, rfl, rfl, rfl, rfl, rfl⟩, ⟨rfl, rfl, rfl⟩, ⟨rfl, entries⟩,
    ⟨channels, levels, rfl⟩, rfl, rfl⟩

/-- The engine is IDLE and GEN_EN low after reset (R78, R86). -/
theorem reset_genFollows : State.reset.genFollows := by
  refine ⟨⟨fun genEn => ?_, fun conditions => ?_⟩, fun _ => rfl⟩
  · cases genEn
  · cases conditions.1

/-- The whole pool is free after reset (R38). -/
theorem reset_slotsSound : State.reset.slotsSound := by
  refine ⟨?_, fun _ => reset_cavity, fun o owned => ?_⟩
  · simp [State.totalSlots, State.heldSlots, State.reset, State.powerOnState, Config.poolSlots]
  · rcases owned with owned | owned <;> cases owned

/-- Settles O56: the power-on state meets the four invariants of O57; no cavity exists, nothing waits, the pool is free. -/
theorem resetMeetsTheInvariants : Obligations.ResetMeetsTheInvariants := by
  let rate := strapRate Pins.allLow
  refine ⟨powerOnState_listsBounded [] ⟨true, true⟩ Pins.allLow rate,
    powerOnState_clampReqFollows [] ⟨true, true⟩ Pins.allLow rate,
    powerOnState_keepsLocked [] ⟨true, true⟩ Pins.allLow rate,
    powerOnState_underCeilings [] ⟨true, true⟩ Pins.allLow rate,
    fun i c hc => ?_, ⟨.nil, .nil, fun i hi => nomatch hi⟩, reset_genFollows, ⟨rfl, rfl⟩, reset_slotsSound⟩
  rw [reset_cavity] at hc
  cases hc

end Sys2Proof.Machine

namespace Sys2Proof.Machine

/-! ### What the port does with any request, and with any event, of the catalogue -/

/-- The lengths of THREAD_PROFILE_SET: the model's arithmetic test and the catalogue's list (R179). -/
theorem profileLength_eq (n : Nat) : profileLength n = decide (n ∈ [19, 23, 27, 31, 35, 39, 43, 47, 51]) := by
  rw [Bool.eq_iff_iff]
  simp only [profileLength, within, Bool.and_eq_true, decide_eq_true_eq, beq_iff_eq, List.mem_cons, List.not_mem_nil,
    or_false]
  omega

/-- The lengths of SEG_APPEND: the model's arithmetic test and the catalogue's (R179). -/
theorem appendLength_eq (n : Nat) : appendLength n = decide (1 ≤ n / 13 ∧ n / 13 ≤ 16 ∧ n % 13 = 0) := by
  rw [Bool.eq_iff_iff]
  simp only [appendLength, within, Bool.and_eq_true, decide_eq_true_eq, beq_iff_eq]
  omega

/-- A request of the catalogue is decided by its owner, at the payload lengths of the catalogue (R4, R179). -/
theorem exec_eq_request {c : Instr} {kind tag : Byte} {payload : List Byte} (hc : c.request = some (kind, tag, payload))
    (known : ∀ k t p, c ≠ .unknownKindRequest k t p) :
    ∃ owner, ∀ s, exec c s = s.request kind tag payload (permittedLength kind payload.length) owner := by
  cases c <;> cases hc
  case unknownKindRequest => exact absurd rfl (known _ _ _)
  case threadProfileSet =>
    have length : permittedLength 0x1A#8 payload.length = profileLength payload.length := (profileLength_eq _).symm
    exact ⟨_, fun s => by rw [length]; rfl⟩
  case segAppend =>
    have length : permittedLength 0x30#8 payload.length = appendLength payload.length := (appendLength_eq _).symm
    exact ⟨_, fun s => by rw [length]; rfl⟩
  all_goals exact ⟨_, fun s => rfl⟩

/-- A request that the port does not decide now has no effect, of the catalogue or not (notes/assumptions/3.md). -/
theorem exec_of_not_decides {c : Instr} {s : State} {kind tag : Byte} {payload : List Byte}
    (hc : c.request = some (kind, tag, payload)) (h : s.decides kind tag payload = false) : exec c s = .next s := by
  by_cases unknown : ∃ k t p, c = .unknownKindRequest k t p
  · obtain ⟨k, t, p, rfl⟩ := unknown
    cases hc
    change execUnknownKindRequest kind tag payload s = .next s
    simp [execUnknownKindRequest, h]
  · obtain ⟨owner, decided⟩ := exec_eq_request hc fun k t p e => unknown ⟨k, t, p, e⟩
    rw [decided]
    exact State.request_of_not_decides h _ _

/-- No request is decided by a part that does not operate (R16). -/
theorem State.decides_of_not_operating {s : State} (h : s.operating = false) (kind tag payload) :
    s.decides kind tag payload = false := by simp [State.decides, h]

/-- No request is decided while a RESET waits for its reply to be sent (R15). -/
theorem State.decides_of_resetting {s : State} (h : s.link.resetting = true) (kind tag payload) :
    s.decides kind tag payload = false := by simp [State.decides, h]

/-- An event that is no power event is one of a part in operation (R16). -/
theorem exec_eq_whenOperating {c : Instr} (hc : c.request = none) (power : isPowerEvent c = false) :
    ∃ f, ∀ s, exec c s = s.whenOperating f := by
  cases c <;> cases hc <;> cases power
  all_goals exact ⟨_, fun s => rfl⟩

/-- Without power, or with RESET_N low, no command but a power event has an effect (R16). -/
theorem exec_of_not_operating {c : Instr} {s : State} (power : isPowerEvent c = false) (h : s.operating = false) :
    exec c s = .next s := by
  cases hc : c.request with
  | none =>
    obtain ⟨f, guarded⟩ := exec_eq_whenOperating hc power
    rw [guarded]
    exact State.whenOperating_of_not h f
  | some r => exact exec_of_not_decides hc (State.decides_of_not_operating h _ _ _)

/-! ### Power and reset (O3, O7) -/

theorem exec_resetNRelease_of_valid {s : State} (low : s.power.resetN = false) (valid : s.power.valid = true) (pins : Pins) :
    exec (.resetNRelease pins) s = .next (s.beginOperation pins (strapRate pins)) := by
  change execResetNRelease pins s = _
  simp [execResetNRelease, low, valid]

theorem exec_resetNRelease_of_not_valid {s : State} (low : s.power.resetN = false) (valid : s.power.valid = false)
    (pins : Pins) : exec (.resetNRelease pins) s = .next (s.updPower fun p => { p with resetN := true }) := by
  change execResetNRelease pins s = _
  simp [execResetNRelease, low, valid]

/-- Settles O3: the power events by the model's two ways into the power-on state, every other command by its guard. -/
theorem powerEventsResetThePart : Obligations.PowerEventsResetThePart := by
  refine ⟨fun s pins => ⟨rfl, rfl, rfl, fun low valid => exec_resetNRelease_of_valid low valid pins,
    fun low valid => exec_resetNRelease_of_not_valid low valid pins, ?_⟩, fun c s power h => exec_of_not_operating power h⟩
  refine ⟨fun h2 h1 => ?_, fun h2 h1 => ?_, fun h2 h1 => ?_, fun h2 h1 => ?_⟩
  all_goals simp [State.powerOnState, strapRate, h2, h1]

/-- The end of the RESET reply's transmission begins operation anew, with the pins and the rate held (R15). -/
theorem exec_frameTransmitEnd_of_isResetReply {s : State} {f : Frame} (operating : s.operating = true)
    (sending : s.link.sending = some f) (reply : s.link.isResetReply f = true) :
    exec .frameTransmitEnd s = .next (s.beginOperation s.pins s.link.rate) := by
  change execFrameTransmitEnd s = _
  rw [execFrameTransmitEnd, State.whenOperating_of operating]
  simp only [sending, reply, if_true]

/-- Received bytes are lost while a RESET waits for its reply to be sent (R15). -/
theorem receiveByte_of_resetting {s : State} (h : s.link.resetting = true) (b : Byte) : s.receiveByte b = s := by
  simp [State.receiveByte, h]

/-- Settles O7: the decision closes at once, its reply's end begins operation anew, and between them nothing is received or
decided. -/
theorem resetRequestRunsToItsReply : Obligations.ResetRequestRunsToItsReply := by
  refine ⟨fun s tag decides quiet => ?_, fun s tag operating resetting sending => ?_, fun s b e resetting => ?_,
    fun s c kind tag payload resetting hc => ?_⟩
  · exact State.request_answered decides rfl
      (a := (s.popRequest.updLink fun l => { l with requests := [], resetting := true }).accept) rfl quiet
  · exact exec_frameTransmitEnd_of_isResetReply operating sending (by simp [Link.isResetReply, resetting])
  · change s.whenOperating (fun s => s.receiveByte b) = .next s
    simp only [State.whenOperating, receiveByte_of_resetting resetting, ite_self]
  · exact exec_of_not_decides hc (State.decides_of_resetting resetting _ _ _)

/-! ### Malformed requests (O8) -/

theorem exec_unknownKindRequest {s : State} {kind tag : Byte} {payload : List Byte} (unknown : isRequestKind kind = false)
    (decides : s.decides kind tag payload = true) (quiet : s.quiet) :
    exec (.unknownKindRequest kind tag payload) s = .next (s.replied kind tag .unknownKind []) := by
  have answered := State.request_refused (permitted := true) (owner := fun s => s.refuse .unknownKind) decides rfl rfl quiet
  change execUnknownKindRequest kind tag payload s = _
  rw [← answered]
  simp [execUnknownKindRequest, unknown, State.request]

/-- A KIND whose top bit is set is its own reply KIND (R6). -/
theorem or_topBit_of_msb : ∀ kind : Byte, kind.msb = true → kind ||| 0x80#8 = kind := by decide

/-- Settles O8: every request of the catalogue goes through one length check, which answers before its owner. -/
theorem malformedRequestsAreAnswered : Obligations.MalformedRequestsAreAnswered := by
  refine ⟨fun s kind tag payload unknown decides quiet =>
    ⟨exec_unknownKindRequest unknown decides quiet, or_topBit_of_msb kind⟩, ?_⟩
  intro s c kind tag payload hc known length decides quiet
  obtain ⟨owner, decided⟩ := exec_eq_request hc known
  rw [decided]
  exact State.request_of_badLength owner decides length quiet

/-! ### LIMITS_SET and the get requests (O10, O11) -/

/-- The ranges of the six ceilings, as R13 states them. -/
theorem Limits.valid_iff (l : Limits) :
    l.valid = true ↔
      (1 ≤ l.feedCeil ∧ l.feedCeil ≤ 400) ∧ (1000 ≤ l.retraceCeil ∧ l.retraceCeil ≤ 50000) ∧ l.jetCeil ≤ 7 ∧
        l.annealCeil ≤ 2000 ∧ (1 ≤ l.rapidCeil ∧ l.rapidCeil ≤ 3000) ∧ (1 ≤ l.attemptCeil ∧ l.attemptCeil ≤ 15) := by
  simp [Limits.valid, within, and_assoc]

/-- The re-clamping lowers each bounded value to its ceiling and changes no other (R14). -/
theorem reclamp_eq (s : State) (l : Limits) :
    s.reclamp l =
      { s with
        feed := s.feed.map fun c => { c with cap := min c.cap l.feedCeil }
        profiles := s.profiles.map fun p =>
          { p with
            anneal := min p.anneal l.annealCeil, attempts := min p.attempts l.attemptCeil
            jetBase := min p.jetBase l.jetCeil, kerfJet := min p.kerfJet l.jetCeil }
        job :=
          { s.job with
            params := s.job.params.map fun p =>
              { p with
                retrace := min p.retrace l.retraceCeil, drySpeed := min p.drySpeed l.rapidCeil
                rapidSpeed := min p.rapidSpeed l.rapidCeil } } } := by
  simp only [State.reclamp, State.updFeed, State.updProfiles, State.updJob, mapTable_eq_map]
  rfl

@[simp] theorem State.popRequest_limits (s : State) : s.popRequest.limits = s.limits := rfl

/-- Settles O10: authority, then ranges, then the record with the re-clamping of `reclamp_eq`. -/
theorem limitsWriteReclamps : Obligations.LimitsWriteReclamps := by
  intro s service tag payload length decides quiet l s1 inRange
  have permitted : (payload.length == 10) = true := by simp [length]
  let read : State := s.popRequest.updPins fun p => { p with serviceEn := service }
  have valid : l.valid = true ↔ inRange := Limits.valid_iff l
  have barred (authority : s.limits = none ∨ service = true) : (s.limits.isSome && !service) = false := by
    rcases authority with h | h <;> simp [h]
  refine ⟨fun written low => ?_, fun authority out => ?_, fun authority within => ?_⟩
  · exact State.request_answered (a := read.refuse .authority) decides permitted (by simp [written, low, read]) quiet
  · have invalid : (parseLimits payload).valid = false := Bool.eq_false_iff.2 fun h => out (valid.1 h)
    exact State.request_answered (a := read.refuse .badField) decides permitted
      (by simp only [State.popRequest_limits, barred authority, invalid, Bool.not_false, if_true, Bool.false_eq_true,
        if_false, read]) quiet
  · have inside : (parseLimits payload).valid = true := valid.2 within
    let stored := (read.updLimits fun _ => some l).reclamp l
    calc exec (.limitsSet service tag payload) s
      _ = .next ((stored.pushReply 0x10#8 tag .ok []).closed) :=
        State.request_answered (a := stored.accept) decides permitted
          (by simp only [State.popRequest_limits, barred authority, inside, Bool.not_true, Bool.false_eq_true, if_false, read,
            l, stored]) quiet
      _ = _ := by simp only [stored, reclamp_eq]; rfl

@[simp] theorem byteAt_singleton (b : Byte) : byteAt [b] 0 = b.toNat := rfl

/-- Settles O11: each owner answers from the state without the request, which stores what the state does. -/
theorem getRequestsAnswerWhatIsStored : Obligations.GetRequestsAnswerWhatIsStored := by
  refine fun s tag quiet => ⟨fun decides => ⟨fun l written => ?_, fun unwritten => ?_⟩, fun i =>
    ⟨fun decides => ⟨fun k hk => ?_, fun out => ?_⟩, fun decides => ⟨fun k hk => ?_, fun out => ?_⟩,
      fun decides => ⟨fun k hk => ?_, fun out => ?_⟩⟩⟩
  · exact State.request_answered (a := ⟨s.popRequest, .ok, l.encode⟩) decides rfl (by simp [written]) quiet
  · exact State.request_refused decides rfl (by simp [unwritten]) quiet
  · exact State.request_answered (a := ⟨s.popRequest, .ok, (s.feed[k]).encode⟩) decides rfl
      (by simp only [byteAt_singleton, indexOf_of_eq k hk]; rfl) quiet
  · exact State.request_refused decides rfl (by simp only [byteAt_singleton, indexOf_of_le out]) quiet
  · exact State.request_answered (a := ⟨s.popRequest, .ok, (s.profiles[k]).encode⟩) decides rfl
      (by simp only [byteAt_singleton, indexOf_of_eq k hk]; rfl) quiet
  · exact State.request_refused decides rfl (by simp only [byteAt_singleton, indexOf_of_le out]) quiet
  · exact State.request_answered
      (a := ⟨s.popRequest, .ok, enc16 (s.channels[k]).stored.delay ++ enc16 (s.channels[k]).stored.width ++
        enc8 (s.channels[k]).stored.polarity.code ++ enc8 (s.channels[k]).state.code⟩) decides rfl
      (by simp only [byteAt_singleton, indexOf_of_eq k hk]; rfl) quiet
  · exact State.request_refused decides rfl (by simp only [byteAt_singleton, indexOf_of_le out]) quiet

end Sys2Proof.Machine

namespace Sys2Proof.Machine

/-! ### The receive framer (O4, O5) -/

section framer

variable {s : State}

theorem receiveByte_of_hunting_sync (resetting : s.link.resetting = false) (hunting : s.link.framer = .hunting) :
    s.receiveByte 0xC3#8 = s.updLink fun l => l.collect [] := by
  simp [State.receiveByte, resetting, hunting, Config.sync]

theorem receiveByte_of_hunting (resetting : s.link.resetting = false) (hunting : s.link.framer = .hunting) {b : Byte}
    (other : b ≠ 0xC3#8) : s.receiveByte b = s := by
  simp [State.receiveByte, resetting, hunting, Config.sync, other]

variable (resetting : s.link.resetting = false) {got : List Byte} (collecting : s.link.framer = .collecting got) {b : Byte}
include resetting collecting

theorem receiveByte_of_tooLong (long : 250 < byteAt (got ++ [b]) 0) : s.receiveByte b = s.updLink Link.hunt := by
  have long' : Config.maxPayload < byteAt (got ++ [b]) 0 := long
  simp only [State.receiveByte, resetting, collecting, long', Bool.false_eq_true, if_true, if_false]

theorem receiveByte_of_incomplete (fits : byteAt (got ++ [b]) 0 ≤ 250)
    (incomplete : (got ++ [b]).length ≠ byteAt (got ++ [b]) 0 + 5) :
    s.receiveByte b = s.updLink fun l => l.collect (got ++ [b]) := by
  have fits' : ¬ Config.maxPayload < byteAt (got ++ [b]) 0 := Nat.not_lt.2 fits
  simp only [State.receiveByte, resetting, collecting, fits', incomplete, Bool.false_eq_true, if_false]

theorem receiveByte_of_complete (fits : byteAt (got ++ [b]) 0 ≤ 250)
    (complete : (got ++ [b]).length = byteAt (got ++ [b]) 0 + 5) :
    s.receiveByte b = (s.updLink Link.hunt).checkFrame (got ++ [b]) := by
  have fits' : ¬ Config.maxPayload < byteAt (got ++ [b]) 0 := Nat.not_lt.2 fits
  simp only [State.receiveByte, resetting, collecting, fits', complete, Bool.false_eq_true, if_true, if_false]

end framer

/-- What a valid frame leaves: a running heartbeat timer restarted, and the frame in the request list if there is room (R3, R4,
R11). -/
theorem validFrame_eq (s : State) (f : Frame) :
    s.validFrame f =
      { s with
        link :=
          { s.link with
            heartbeat := if s.link.heartbeat.isSome ∧ s.params.heartbeat ≠ 0 then some s.params.heartbeat else none
            requests := if s.link.requests.length < 4 then s.link.requests ++ [f] else s.link.requests } } := by
  have restarted : s.restartHeartbeat =
      { s with
        link :=
          { s.link with
            heartbeat :=
              if s.link.heartbeat.isSome ∧ s.params.heartbeat ≠ 0 then some s.params.heartbeat else none } } := by
    unfold State.restartHeartbeat
    cases running : s.link.heartbeat with
    | none =>
      simp only [Option.isSome_none, Bool.false_eq_true, false_and, if_false]
      rw [← running]
    | some n => by_cases zero : s.params.heartbeat = 0 <;> simp [State.startHeartbeat, State.updLink, zero]
  simp only [State.validFrame, restarted, State.updLink, Config.requestSlots]
  split <;> rfl

theorem checkFrame_of_match {s : State} {got : List Byte} (h : crc16 (coveredBytes got) = receivedCrc got) :
    s.checkFrame got = s.validFrame (frameOf got) := if_pos h

theorem checkFrame_of_mismatch {s : State} {got : List Byte} (h : crc16 (coveredBytes got) ≠ receivedCrc got) :
    s.checkFrame got = s := if_neg h

theorem exec_receivedByte {s : State} (operating : s.operating = true) (b : Byte) (e : Bool) :
    exec (.receivedByte b e) s = .next (s.receiveByte b) := State.whenOperating_of operating fun s => s.receiveByte b

/-- Settles O5: one equation of the framer for each of its cases. -/
theorem receivedByteMovesFramer : Obligations.ReceivedByteMovesFramer := by
  intro s b e operating resetting dropped
  rw [exec_receivedByte operating]
  refine ⟨fun hunting sync => ?_, fun hunting other => ?_, fun got collecting => ?_, fun running => ?_⟩
  · rw [sync, receiveByte_of_hunting_sync resetting hunting]
    rfl
  · rw [receiveByte_of_hunting resetting hunting other]
  · refine ⟨fun long => ?_, fun fits incomplete => ?_, fun fits complete mismatch => ?_, fun fits complete same => ?_⟩
    · rw [receiveByte_of_tooLong resetting collecting long]
      rfl
    · rw [receiveByte_of_incomplete resetting collecting fits incomplete]
      rfl
    · rw [receiveByte_of_complete resetting collecting fits complete, checkFrame_of_mismatch mismatch]
      rfl
    · rw [receiveByte_of_complete resetting collecting fits complete, checkFrame_of_match same, validFrame_eq]
      rfl
  · refine (State.whenOperating_of operating _).trans ?_
    rw [if_pos running]
    rfl

/-! #### Whole frames -/

/-- LENGTH, KIND, TAG, payload and a check value, as they follow SYNC (chapter 11.2). -/
def Frame.line (f : Frame) (crc : BitVec 16) : List Byte := f.body ++ enc16 crc.toNat

theorem Frame.bytes_eq (f : Frame) : f.bytes = 0xC3#8 :: f.line (crc16 f.body) := rfl

theorem Frame.line_length (f : Frame) (crc : BitVec 16) : (f.line crc).length = f.payload.length + 5 := by
  simp [Frame.line, Frame.body]

section line

variable {f : Frame} (fits : f.payload.length ≤ 250) (crc : BitVec 16)
include fits

theorem Frame.byteAt_line : byteAt (f.line crc) 0 = f.payload.length := by
  simp [Frame.line, Frame.body, byteAt]
  omega

theorem Frame.coveredBytes_line : coveredBytes (f.line crc) = f.body := by
  have length : f.body.length = f.payload.length + 3 := by simp [Frame.body]
  rw [coveredBytes, f.byteAt_line fits, ← length]
  exact List.take_left

theorem Frame.receivedCrc_line : receivedCrc (f.line crc) = crc := by
  have length : f.body.length = f.payload.length + 3 := by simp [Frame.body]
  rw [receivedCrc, f.byteAt_line fits, ← length, Frame.line, ← Nat.add_zero f.body.length, u16At_append]
  have read := u16At_enc16 crc.isLt []
  rw [List.append_nil] at read
  simp [read]

theorem Frame.frameOf_line : frameOf (f.line crc) = f := by
  have payload : ((f.line crc).drop 3).take f.payload.length = f.payload := List.take_left
  rw [frameOf, f.byteAt_line fits, payload]
  rfl

/-- The bytes of a frame that remain, received by a framer that has gathered the ones before, bring the frame to its check. -/
theorem receiveBytes_eq_checkFrame {s : State} {got rest : List Byte} (resetting : s.link.resetting = false)
    (collecting : s.link.framer = .collecting got) (more : rest ≠ []) (whole : f.line crc = got ++ rest) :
    rest.foldl State.receiveByte s = (s.updLink Link.hunt).checkFrame (f.line crc) := by
  induction rest generalizing s got with
  | nil => exact absurd rfl more
  | cons b rest ih =>
    have gathered : f.line crc = (got ++ [b]) ++ rest := by simpa using whole
    have length : byteAt (got ++ [b]) 0 = f.payload.length := by
      rw [← f.byteAt_line fits crc, gathered]
      cases got <;> rfl
    have total : (got ++ [b]).length + rest.length = f.payload.length + 5 := by
      rw [← List.length_append, ← gathered, f.line_length crc]
    cases rest with
    | nil =>
      rw [List.append_nil] at gathered
      rw [gathered]
      exact receiveByte_of_complete resetting collecting (length ▸ fits) (by rw [length]; exact total)
    | cons c rest =>
      rw [List.foldl_cons, receiveByte_of_incomplete resetting collecting (length ▸ fits)
        (by rw [length]; simp only [List.length_cons] at total; omega)]
      exact ih resetting rfl (List.cons_ne_nil c rest) gathered

/-- A frame whose check value is right is valid (R3). -/
theorem checkFrame_line (s : State) : s.checkFrame (f.line (crc16 f.body)) = s.validFrame f := by
  rw [checkFrame_of_match, f.frameOf_line fits]
  rw [f.coveredBytes_line fits, f.receivedCrc_line fits]

/-- A frame with any other check value has no effect (R3). -/
theorem checkFrame_line_of_ne (s : State) {crc : BitVec 16} (other : crc ≠ crc16 f.body) : s.checkFrame (f.line crc) = s := by
  refine checkFrame_of_mismatch ?_
  rw [f.coveredBytes_line fits, f.receivedCrc_line fits]
  exact other.symm

/-- A HUNTING framer that receives SYNC and a frame's bytes brings the frame to its check. -/
theorem receiveFrame_eq_checkFrame {s : State} (resetting : s.link.resetting = false) (hunting : s.link.framer = .hunting) :
    (0xC3#8 :: f.line crc).foldl State.receiveByte s = (s.updLink Link.hunt).checkFrame (f.line crc) := by
  have nonempty : f.line crc ≠ [] := by simp [← List.length_pos_iff, f.line_length]
  rw [List.foldl_cons, receiveByte_of_hunting_sync resetting hunting]
  exact receiveBytes_eq_checkFrame fits crc (s := s.updLink fun l => l.collect []) resetting rfl nonempty rfl

end line

/-- Settles O4: the bytes of a frame bring it to its check, and the check makes it a request or drops it. -/
theorem wholeFrameIsTaken : Obligations.WholeFrameIsTaken := by
  intro s f operating resetting fits taken lost
  have received (bytes : List Byte) : exec (.frameReceive bytes) s = .next (bytes.foldl State.receiveByte s) :=
    State.whenOperating_of operating fun s => bytes.foldl State.receiveByte s
  have valid : (s.updLink Link.hunt).checkFrame (f.line (crc16 f.body)) = taken := by
    rw [checkFrame_line fits, validFrame_eq]
    rfl
  have dropped {crc : BitVec 16} (other : crc ≠ crc16 f.body) : (s.updLink Link.hunt).checkFrame (f.line crc) = lost :=
    checkFrame_line_of_ne fits _ other
  refine ⟨fun hunting => ⟨?_, fun crc other => ?_⟩,
    fun got rest collecting more => ⟨fun whole => ?_, fun crc other whole => ?_⟩⟩
  · rw [received, f.bytes_eq, receiveFrame_eq_checkFrame fits _ resetting hunting, valid]
  · rw [received, ← dropped other, ← receiveFrame_eq_checkFrame fits crc resetting hunting]
    rfl
  · rw [received, receiveBytes_eq_checkFrame fits _ resetting collecting more (List.cons.inj whole).2, valid]
  · rw [received, receiveBytes_eq_checkFrame fits crc resetting collecting more whole, dropped other]

end Sys2Proof.Machine

namespace Sys2Proof.Machine

/-! ### The transmitter (O6) -/

section transmitter

variable {s : State} (idle : s.link.sending = none)
include idle

theorem startTransmit_of_reply {r : Frame} {rest : List Frame} (replies : s.link.replies = r :: rest) :
    s.startTransmit = s.updLink fun l => { l with replies := rest, sending := some r } := by
  simp only [State.startTransmit, idle, replies]

theorem startTransmit_of_none (replies : s.link.replies = []) (notices : s.link.notices = []) : s.startTransmit = s := by
  simp only [State.startTransmit, idle, replies, notices]

theorem startTransmit_of_event {code : Code} {content : EventContent} {rest : List Notice} (replies : s.link.replies = [])
    (notices : s.link.notices = .event code content :: rest) :
    s.startTransmit = s.updLink fun l => { l with notices := rest, sending := some (Notice.event code content).frame } := by
  simp only [State.startTransmit, idle, replies, notices]

theorem startTransmit_of_progress {content : ProgressContent} {rest : List Notice} (replies : s.link.replies = [])
    (notices : s.link.notices = .progress content :: rest) :
    s.startTransmit =
      (s.updLink fun l => { l with notices := rest, sending := some (Notice.progress content).frame }).markReported
        content := by
  simp only [State.startTransmit, idle, replies, notices]

end transmitter

/-- The end of a frame that is not the reply to RESET makes the transmitter idle, and it chooses again (R7). -/
theorem exec_frameTransmitEnd {s : State} {f : Frame} (operating : s.operating = true) (sending : s.link.sending = some f)
    (other : s.link.isResetReply f = false) :
    exec .frameTransmitEnd s = .next (s.updLink fun l => { l with sending := none }).startTransmit := by
  change execFrameTransmitEnd s = _
  rw [execFrameTransmitEnd, State.whenOperating_of operating]
  simp only [sending, other, Bool.false_eq_true, if_false]

/-- Settles O6: one equation of the idle transmitter for each of its choices. -/
theorem transmitterChoosesNextFrame : Obligations.TransmitterChoosesNextFrame := by
  refine ⟨fun s f operating sending other => ?_, fun code content => ⟨rfl, rfl, rfl⟩, fun content => ⟨rfl, rfl, rfl⟩⟩
  rw [exec_frameTransmitEnd operating sending other]
  have idle : (s.updLink fun l => { l with sending := none }).link.sending = none := rfl
  refine ⟨fun r rest replies => ?_, fun replies notices => ?_, fun code content rest replies notices => ?_,
    fun content rest replies notices => ?_⟩
  · rw [startTransmit_of_reply idle replies]
    rfl
  · rw [startTransmit_of_none idle replies notices]
    rfl
  · rw [startTransmit_of_event idle replies notices]
    rfl
  · rw [startTransmit_of_progress idle replies notices]
    rfl

/-! ### The heartbeat (O12) -/

/-- Suspending the blocks raises no code. -/
theorem suspendBlocks_raised (s : State) : s.suspendBlocks.raised = s.raised := by
  have suspended (t : State) : t.engineSuspend.raised = t.raised := by
    unfold State.engineSuspend
    split <;> rfl
  exact suspended s.stopHeartbeat

theorem suspendBlocks_job (s : State) : s.suspendBlocks.job = s.job := by
  have suspended (t : State) : t.engineSuspend.job = t.job := by
    unfold State.engineSuspend
    split <;> rfl
  exact suspended s.stopHeartbeat

theorem addReason_of_running {s : State} (running : s.job.state = .running) (add : Reasons → Reasons) :
    s.addReason add = (s.updJob fun j => { j with state := .paused, reasons := add j.reasons }).suspendBlocks := by
  simp only [State.addReason, running]

/-- The sequencer selects nothing in a job that is not RUNNING (R35). -/
theorem canSelect_of_paused {s : State} (paused : s.job.state = .paused) : s.canSelect = false := by
  simp [State.canSelect, paused]

theorem exec_heartbeatExpiry {s : State} (operating : s.operating = true) (running : s.link.heartbeat.isSome = true) :
    exec .heartbeatExpiry s = .next ((s.stopHeartbeat.raise Event.linkSilent 0).finish false) := by
  change execHeartbeatExpiry s = _
  rw [execHeartbeatExpiry, State.whenOperating_of operating, if_pos running]

/-- Settles O12: the entry is handed by the pause alone, after which the job is PAUSED and nothing is selected; an inert entry
leaves its record, notice and outputs. -/
theorem heartbeatExpiryPausesTheJob : Obligations.HeartbeatExpiryPausesTheJob := by
  intro s operating timer quiet s1
  rw [exec_heartbeatExpiry operating timer]
  refine ⟨fun running pauses => ?_, fun inert =>
    congrArg _ (State.raise_finish_of_inert (s := s1) quiet inert 0)⟩
  let paused : State := State.suspendBlocks
    { s1.noted Event.linkSilent 0 with
      job := { s.job with state := .paused, reasons := { s.job.reasons with linkSilent := true } } }
  have pause : (s1.noted Event.linkSilent 0).pauseAction Event.linkSilent = paused :=
    addReason_of_running (s := s1.noted Event.linkSilent 0) running Reasons.addLinkSilent
  have drained : (s1.raise Event.linkSilent 0).drain =
      paused.allOutputActions (s.maps.entry s.maps.active Event.linkSilent) := by
    rw [← pause]
    refine State.raise_drain_of_onlyPauses (s := s1) quiet.1 pauses 0 ?_
    rw [pause]
    exact (suspendBlocks_raised _).trans quiet.1
  have resting : (s1.raise Event.linkSilent 0).drain.canSelect = false := by
    refine canSelect_of_paused ?_
    rw [drained, State.allOutputActions_eq]
    exact congrArg Job.state (suspendBlocks_job _)
  change Host.Outcome.next ((s1.raise Event.linkSilent 0).finish false) = _
  rw [State.finish, State.sequence_of_not_canSelect resting, drained]
  rfl

end Sys2Proof.Machine

namespace Sys2Proof.Machine

/-! ### Reading a field out of a record (R179) -/

/-! A record carries a field at offset `n` when the bytes from `n` on begin with the field: `field <+: record.drop n`. -/

section reading

variable {bs : List Byte} {n : Nat}

theorem byteAt_eq_drop (bs : List Byte) (n : Nat) : byteAt bs n = byteAt (bs.drop n) 0 := by simp [byteAt]

theorem u16At_eq_drop (bs : List Byte) (n : Nat) : u16At bs n = u16At (bs.drop n) 0 := by
  simp [u16At, byteAt_eq_drop bs n, byteAt_eq_drop bs (n + 1), byteAt_eq_drop (bs.drop n) 1]

theorem u32At_eq_drop (bs : List Byte) (n : Nat) : u32At bs n = u32At (bs.drop n) 0 := by
  simp [u32At, u16At_eq_drop bs n, u16At_eq_drop bs (n + 2), u16At_eq_drop (bs.drop n) 2]

theorem byteAt_of_field {v : Nat} (field : enc8 v <+: bs.drop n) : byteAt bs n = v % 256 := by
  obtain ⟨rest, field⟩ := field
  rw [byteAt_eq_drop, ← field]
  simp [byteAt, enc8]

theorem u16At_of_field {v : Nat} (field : enc16 v <+: bs.drop n) : u16At bs n = v % 2 ^ 16 := by
  obtain ⟨rest, field⟩ := field
  rw [u16At_eq_drop, ← field]
  simp [u16At, byteAt, enc16, enc8]
  omega

theorem u32At_of_field {v : Nat} (field : enc32 v <+: bs.drop n) : u32At bs n = v % 2 ^ 32 := by
  obtain ⟨rest, field⟩ := field
  rw [u32At_eq_drop, ← field]
  simp [u32At, u16At, byteAt, enc32, enc16, enc8]
  omega

/-- An s32 field reads back where the value lies within its width. -/
theorem s32At_of_field {i : Int} (field : encS32 i <+: bs.drop n) (low : -2 ^ 31 ≤ i) (high : i < 2 ^ 31) :
    s32At bs n = i := by
  rw [s32At, u32At_of_field field, Nat.mod_eq_of_lt (BitVec.isLt _), BitVec.ofNat_toNat, BitVec.setWidth_eq,
    BitVec.toInt_ofInt]
  exact Int.bmod_eq_of_le (by omega) (by omega)

/-- A field of a record stands behind the fields before it. -/
theorem field_of_flatten {fields : List (List Byte)} {k : Nat} {field : List Byte} (h : fields[k]? = some field) :
    field <+: fields.flatten.drop ((fields.map List.length).take k).sum := by
  induction fields generalizing k with
  | nil => cases h
  | cons first rest ih =>
    cases k with
    | zero =>
      obtain rfl : first = field := Option.some.inj h
      exact ⟨rest.flatten, rfl⟩
    | succ k =>
      have later := ih h
      simpa [← List.drop_drop] using later

end reading

/-! ### STATUS (O9) -/

/-- A point of the recovery unit is its offset and its position, zeros where it is absent (R181). -/
theorem encPathPoint_eq (o : Option PathPoint) :
    encPathPoint o =
      enc32 ((o.map PathPoint.offset).getD 0) ++
        (encS32 ((o.map fun p => p.pos.x).getD 0) ++ encS32 ((o.map fun p => p.pos.y).getD 0)) := by
  cases o
  · rfl
  · exact List.append_assoc _ _ _

/-- The fields of the status record in their order, a point in its coordinates (chapter 11.5). -/
def State.statusFields (s : State) : List (List Byte) :=
  [enc8 s.job.state.code, enc8 s.job.reasons.byte, enc8 (cavityByte s.job.active), enc8 s.activeStateByte,
    enc8 (chainByte s.reportedChain), enc8 s.engine.state.code, enc8 s.threading.state.code, enc8 s.recovery.stage.code,
    enc32 s.reportedP, enc32 (if s.engine.chain.isSome then s.engine.h else 0),
    enc32 (if s.engine.chain.isSome then s.engine.floor else 0), encS32 s.engine.commanded.x, encS32 s.engine.commanded.y,
    enc16 s.store.free, enc8 s.retention.clamp.code, enc8 (cavityByte s.retention.clamp.owner), enc8 s.maps.active.code,
    enc16 s.log.length, enc8 s.statusFlags, enc32 ((s.recovery.breakPoint.map PathPoint.offset).getD 0),
    encS32 ((s.recovery.breakPoint.map fun p => p.pos.x).getD 0),
    encS32 ((s.recovery.breakPoint.map fun p => p.pos.y).getD 0),
    enc32 ((s.recovery.resumePoint.map PathPoint.offset).getD 0),
    encS32 ((s.recovery.resumePoint.map fun p => p.pos.x).getD 0),
    encS32 ((s.recovery.resumePoint.map fun p => p.pos.y).getD 0), enc32 s.clock.toNat,
    enc16 (s.statusParam fun p => p.retrace), enc16 (s.statusParam fun p => p.drySpeed),
    enc16 (s.statusParam fun p => p.rapidSpeed)]

theorem statusRecord_eq (s : State) : s.statusRecord = s.statusFields.flatten := by
  unfold State.statusRecord State.statusFields
  simp only [encPathPoint_eq, encPoint, List.flatten_cons, List.flatten_nil,
    List.append_nil, List.append_assoc]

theorem statusRecord_length (s : State) : s.statusRecord.length = 70 := by
  unfold State.statusRecord
  simp only [List.length_append, enc8_length, enc16_length, enc32_length, encPoint_length, encPathPoint_length]

theorem statusFields_lengths (s : State) :
    s.statusFields.map List.length =
      [1, 1, 1, 1, 1, 1, 1, 1, 4, 4, 4, 4, 4, 2, 1, 1, 1, 2, 1, 4, 4, 4, 4, 4, 4, 4, 2, 2, 2] := by
  simp only [State.statusFields, List.map_cons, List.map_nil, enc8_length, enc16_length, enc32_length, encS32_length]

/-- The offset of field `k` of the status record: the lengths of the fields before it (chapter 11.5). -/
def statusOffset (k : Nat) : Nat :=
  ([1, 1, 1, 1, 1, 1, 1, 1, 4, 4, 4, 4, 4, 2, 1, 1, 1, 2, 1, 4, 4, 4, 4, 4, 4, 4, 2, 2, 2].take k).sum

/-- A field of the status record stands behind the fields before it. -/
theorem statusRecord_field (s : State) {k : Nat} {field : List Byte} (h : s.statusFields[k]? = some field) :
    field <+: s.statusRecord.drop (statusOffset k) := by
  rw [statusOffset, ← statusFields_lengths s, statusRecord_eq]
  exact field_of_flatten h

/-! #### The codes of the fields stay within a byte -/

theorem JobState.code_lt (j : JobState) : j.code < 256 := by cases j <;> decide
theorem CavState.code_lt (c : CavState) : c.code < 256 := by cases c <;> decide
theorem EngineState.code_lt (e : EngineState) : e.code < 256 := by cases e <;> decide
theorem ThreadState.code_lt (t : ThreadState) : t.code < 256 := by cases t <;> decide
theorem Stage.code_lt (t : Stage) : t.code < 256 := by cases t <;> decide

/-- The pause-reason byte, bit by bit (chapter 11.3). -/
theorem Reasons.byte_mod (r : Reasons) :
    r.byte % 256 =
      (if r.host then 1 else 0) + (if r.event then 2 else 0) + (if r.interlock then 4 else 0) +
        (if r.linkSilent then 8 else 0) := by
  obtain ⟨host, event, interlock, linkSilent⟩ := r
  revert host event interlock linkSilent
  decide

/-- The flags byte of STATUS, bit by bit (chapter 11.5). -/
theorem statusFlags_mod (s : State) :
    s.statusFlags % 256 =
      (if s.threading.wireIn then 1 else 0) + (if s.pins.interlock then 2 else 0) +
        (if s.interlock.latched then 4 else 0) + (if s.recovery.breakPoint.isSome then 8 else 0) +
        (if s.recovery.resumePoint.isSome then 16 else 0) := by
  rw [State.statusFlags]
  generalize s.threading.wireIn = wire, s.pins.interlock = interlock, s.interlock.latched = latched,
    s.recovery.breakPoint.isSome = broken, s.recovery.resumePoint.isSome = resuming
  revert wire interlock latched broken resuming
  decide

/-! #### What the reported fields are -/

theorem activeCavity_eq_some {s : State} {i : CavityId} {c : Cavity} (active : s.job.active = some i)
    (record : s.cavity i = some c) : s.activeCavity = some c := by
  simp [State.activeCavity, active, record]

theorem activeCavity_eq_none {s : State} (active : s.job.active = none) : s.activeCavity = none := by
  simp [State.activeCavity, active]

theorem reportedChain_of_separating {s : State} {c : Cavity} (active : s.activeCavity = some c)
    (separating : c.state = .separating) : s.reportedChain = some .separation := by
  simp [State.reportedChain, active, separating]

theorem reportedChain_of_not_separating {s : State}
    (other : ∀ i c, s.job.active = some i → s.cavity i = some c → c.state ≠ .separating) :
    s.reportedChain = s.engine.chain := by
  unfold State.reportedChain
  split
  · rename_i c active
    obtain ⟨i, hi, hc⟩ := Option.bind_eq_some_iff.1 active
    exact if_neg (other i c hi hc)
  · rfl

/-! #### What the status record carries -/

section record

variable (s : State)

theorem byteAt_statusRecord {k v : Nat} (h : s.statusFields[k]? = some (enc8 v)) :
    byteAt s.statusRecord (statusOffset k) = v % 256 := byteAt_of_field (statusRecord_field s h)

theorem u16At_statusRecord {k v : Nat} (h : s.statusFields[k]? = some (enc16 v)) :
    u16At s.statusRecord (statusOffset k) = v % 2 ^ 16 := u16At_of_field (statusRecord_field s h)

theorem u32At_statusRecord {k v : Nat} (h : s.statusFields[k]? = some (enc32 v)) :
    u32At s.statusRecord (statusOffset k) = v % 2 ^ 32 := u32At_of_field (statusRecord_field s h)

theorem s32At_statusRecord {k : Nat} {i : Int} (h : s.statusFields[k]? = some (encS32 i)) (low : -2 ^ 31 ≤ i)
    (high : i < 2 ^ 31) : s32At s.statusRecord (statusOffset k) = i := s32At_of_field (statusRecord_field s h) low high

/-- A zero coordinate is four zero bytes. -/
theorem u32At_statusRecord_zero {k : Nat} (h : s.statusFields[k]? = some (encS32 0)) :
    u32At s.statusRecord (statusOffset k) = 0 := u32At_of_field (statusRecord_field s h)

theorem statusRecord_job :
    byteAt s.statusRecord 0 = s.job.state.code ∧
      byteAt s.statusRecord 1 =
        (if s.job.reasons.host then 1 else 0) + (if s.job.reasons.event then 2 else 0) +
          (if s.job.reasons.interlock then 4 else 0) + (if s.job.reasons.linkSilent then 8 else 0) :=
  ⟨(byteAt_statusRecord s (k := 0) rfl).trans (Nat.mod_eq_of_lt (JobState.code_lt _)),
    (byteAt_statusRecord s (k := 1) rfl).trans (Reasons.byte_mod _)⟩

theorem statusRecord_active {i : CavityId} {c : Cavity} (active : s.job.active = some i) (record : s.cavity i = some c) :
    byteAt s.statusRecord 2 = i.val ∧ byteAt s.statusRecord 3 = c.state.code := by
  have id : byteAt s.statusRecord 2 = cavityByte s.job.active % 256 := byteAt_statusRecord s (k := 2) rfl
  have state : byteAt s.statusRecord 3 = s.activeStateByte % 256 := byteAt_statusRecord s (k := 3) rfl
  rw [id, state, active, State.activeStateByte, activeCavity_eq_some active record]
  exact ⟨Nat.mod_eq_of_lt (by simp only [cavityByte]; omega), Nat.mod_eq_of_lt (CavState.code_lt _)⟩

theorem statusRecord_inactive (active : s.job.active = none) :
    byteAt s.statusRecord 2 = 0xFF ∧ byteAt s.statusRecord 3 = 0xFF := by
  have id : byteAt s.statusRecord 2 = cavityByte s.job.active % 256 := byteAt_statusRecord s (k := 2) rfl
  have state : byteAt s.statusRecord 3 = s.activeStateByte % 256 := byteAt_statusRecord s (k := 3) rfl
  rw [id, state, active, State.activeStateByte, activeCavity_eq_none active]
  exact ⟨rfl, rfl⟩

theorem byteAt_statusRecord_chain : byteAt s.statusRecord 4 = chainByte s.reportedChain := by
  have bound : chainByte s.reportedChain < 256 := by
    unfold chainByte
    split <;> omega
  exact (byteAt_statusRecord s (k := 4) rfl).trans (Nat.mod_eq_of_lt bound)

theorem statusRecord_states :
    byteAt s.statusRecord 5 = s.engine.state.code ∧ byteAt s.statusRecord 6 = s.threading.state.code ∧
      byteAt s.statusRecord 7 = s.recovery.stage.code :=
  ⟨(byteAt_statusRecord s (k := 5) rfl).trans (Nat.mod_eq_of_lt (EngineState.code_lt _)),
    (byteAt_statusRecord s (k := 6) rfl).trans (Nat.mod_eq_of_lt (ThreadState.code_lt _)),
    (byteAt_statusRecord s (k := 7) rfl).trans (Nat.mod_eq_of_lt (Stage.code_lt _))⟩

/-- P, H and the floor, 0 while no chain is active (R78). -/
theorem statusRecord_path :
    (s.engine.chain ≠ none →
      u32At s.statusRecord 8 = s.engine.p % 2 ^ 32 ∧ u32At s.statusRecord 12 = s.engine.h % 2 ^ 32 ∧
        u32At s.statusRecord 16 = s.engine.floor % 2 ^ 32) ∧
    (s.engine.chain = none →
      u32At s.statusRecord 8 = 0 ∧ u32At s.statusRecord 12 = 0 ∧ u32At s.statusRecord 16 = 0) := by
  have hp : u32At s.statusRecord 8 = (if s.engine.chain.isSome then s.engine.p else 0) % 2 ^ 32 :=
    u32At_statusRecord s (k := 8) rfl
  have hh : u32At s.statusRecord 12 = (if s.engine.chain.isSome then s.engine.h else 0) % 2 ^ 32 :=
    u32At_statusRecord s (k := 9) rfl
  have hfloor : u32At s.statusRecord 16 = (if s.engine.chain.isSome then s.engine.floor else 0) % 2 ^ 32 :=
    u32At_statusRecord s (k := 10) rfl
  rw [hp, hh, hfloor]
  refine ⟨fun some => ?_, fun none => ?_⟩
  · simp [Option.isSome_iff_ne_none.2 some]
  · simp [none]

theorem statusRecord_clamp :
    (s.retention.clamp = .free → byteAt s.statusRecord 30 = 0 ∧ byteAt s.statusRecord 31 = 0xFF) ∧
    (∀ i, s.retention.clamp = .requested i → byteAt s.statusRecord 30 = 1 ∧ byteAt s.statusRecord 31 = i.val) ∧
    (∀ i, s.retention.clamp = .held i → byteAt s.statusRecord 30 = 2 ∧ byteAt s.statusRecord 31 = i.val) := by
  have code : byteAt s.statusRecord 30 = s.retention.clamp.code % 256 := byteAt_statusRecord s (k := 14) rfl
  have owner : byteAt s.statusRecord 31 = cavityByte s.retention.clamp.owner % 256 := byteAt_statusRecord s (k := 15) rfl
  rw [code, owner]
  refine ⟨fun clamp => ?_, fun i clamp => ?_, fun i clamp => ?_⟩
  · rw [clamp]
    exact ⟨rfl, rfl⟩
  all_goals
    rw [clamp]
    exact ⟨rfl, Nat.mod_eq_of_lt (by simp only [cavityByte, Clamp.owner]; omega)⟩

theorem byteAt_statusRecord_map : byteAt s.statusRecord 32 = if s.maps.active = .a then 0 else 1 := by
  have code : byteAt s.statusRecord 32 = s.maps.active.code % 256 := byteAt_statusRecord s (k := 16) rfl
  rw [code]
  cases s.maps.active <;> rfl

/-- A point of the recovery unit, zeros where it is absent (R181). -/
theorem statusRecord_point {o : Option PathPoint} {k : Nat}
    (offset : s.statusFields[k]? = some (enc32 ((o.map PathPoint.offset).getD 0)))
    (x : s.statusFields[k + 1]? = some (encS32 ((o.map fun p => p.pos.x).getD 0)))
    (y : s.statusFields[k + 2]? = some (encS32 ((o.map fun p => p.pos.y).getD 0))) :
    (∀ b, o = some b →
      u32At s.statusRecord (statusOffset k) = b.offset % 2 ^ 32 ∧
        (-2 ^ 31 ≤ b.pos.x → b.pos.x < 2 ^ 31 → s32At s.statusRecord (statusOffset (k + 1)) = b.pos.x) ∧
        (-2 ^ 31 ≤ b.pos.y → b.pos.y < 2 ^ 31 → s32At s.statusRecord (statusOffset (k + 2)) = b.pos.y)) ∧
    (o = none →
      u32At s.statusRecord (statusOffset k) = 0 ∧ u32At s.statusRecord (statusOffset (k + 1)) = 0 ∧
        u32At s.statusRecord (statusOffset (k + 2)) = 0) := by
  refine ⟨?_, ?_⟩
  · rintro b rfl
    exact ⟨u32At_statusRecord s offset, s32At_statusRecord s x, s32At_statusRecord s y⟩
  · rintro rfl
    exact ⟨u32At_statusRecord s offset, u32At_statusRecord_zero s x, u32At_statusRecord_zero s y⟩

/-- RT, dry speed and rapid speed, 0 without job parameters (R17). -/
theorem statusRecord_params :
    (∀ p, s.job.params = some p →
      u16At s.statusRecord 64 = p.retrace % 2 ^ 16 ∧ u16At s.statusRecord 66 = p.drySpeed % 2 ^ 16 ∧
        u16At s.statusRecord 68 = p.rapidSpeed % 2 ^ 16) ∧
    (s.job.params = none →
      u16At s.statusRecord 64 = 0 ∧ u16At s.statusRecord 66 = 0 ∧ u16At s.statusRecord 68 = 0) := by
  have retrace : u16At s.statusRecord 64 = (s.statusParam fun p => p.retrace) % 2 ^ 16 := u16At_statusRecord s (k := 26) rfl
  have dry : u16At s.statusRecord 66 = (s.statusParam fun p => p.drySpeed) % 2 ^ 16 := u16At_statusRecord s (k := 27) rfl
  have rapid : u16At s.statusRecord 68 = (s.statusParam fun p => p.rapidSpeed) % 2 ^ 16 :=
    u16At_statusRecord s (k := 28) rfl
  rw [retrace, dry, rapid]
  refine ⟨fun p stored => ?_, fun none => ?_⟩
  · simp [State.statusParam, stored]
  · simp [State.statusParam, none]

end record

/-- Settles O9: the record's fields stand at the offsets of chapter 11.5, and each reads back. -/
theorem statusReportsTheState : Obligations.StatusReportsTheState := by
  intro s tag decides quiet
  have answered : exec (.status tag []) s = .next (s.replied 0x01#8 tag .ok s.statusRecord) :=
    State.request_answered (a := ⟨s.popRequest, .ok, s.popRequest.statusRecord⟩) decides rfl rfl quiet
  refine ⟨s.statusRecord, answered, statusRecord_length s, statusRecord_job s,
    ⟨fun i c active record => statusRecord_active s active record, statusRecord_inactive s⟩, ⟨?_, ?_⟩,
    statusRecord_states s, statusRecord_path s, s32At_statusRecord s (k := 11) rfl, s32At_statusRecord s (k := 12) rfl,
    u16At_statusRecord s (k := 13) rfl, statusRecord_clamp s, byteAt_statusRecord_map s, u16At_statusRecord s (k := 17) rfl,
    (byteAt_statusRecord s (k := 18) rfl).trans (statusFlags_mod s), statusRecord_point s (k := 19) rfl rfl rfl,
    statusRecord_point s (k := 22) rfl rfl rfl,
    (u32At_statusRecord s (k := 25) rfl).trans (Nat.mod_eq_of_lt s.clock.isLt), statusRecord_params s⟩
  · intro i c active record separating
    rw [byteAt_statusRecord_chain, reportedChain_of_separating (activeCavity_eq_some active record) separating]
    rfl
  · intro other
    rw [byteAt_statusRecord_chain, reportedChain_of_not_separating other]
    refine ⟨fun k chain => ?_, fun chain => ?_, fun chain => ?_⟩
    all_goals
      rw [chain]
      rfl

end Sys2Proof.Machine

namespace Sys2Proof.Machine

/-! ### The generator enable (O60)

GEN_EN is brought up to date in one place, the close of a command (`State.finish`), so the proof has two halves: the close
establishes the invariant from any state, and a command that does not close leaves alone what GEN_EN depends on. -/

/-- The five conditions of GEN_EN (R86). -/
def State.genConditions (s : State) : Prop :=
  s.engine.state = .cutting ∧ (∃ g, s.segmentAtP = some g ∧ g.mode = .cut) ∧ s.threading.wireIn = true ∧
    s.job.state = .running ∧ s.pins.interlock = true

theorem genFollows_iff (s : State) :
    s.genFollows ↔
      (s.engine.genEn = true ↔ s.genConditions) ∧ (s.engine.genEn = false → s.engine.energy = 0) := Iff.rfl

/-- The model finds a feed class for the output exactly under the five conditions. -/
theorem genClass_isSome_iff (s : State) : s.genClass.isSome = true ↔ s.genConditions := by
  simp only [State.genClass, State.genConditions]
  cases s.segmentAtP with
  | none => simp
  | some g => by_cases cut : g.mode = .cut <;> simp [cut]

/-- Whatever the state, GEN_EN follows once it is refreshed; an index that is kept is one of an asserted output. -/
theorem refreshGen_genFollows (s : State) (atReport : Bool) : (s.refreshGen atReport).genFollows := by
  unfold State.refreshGen
  split
  · rename_i noClass
    have unmet : ¬ s.genConditions := by simp [← genClass_isSome_iff, noClass]
    exact ⟨⟨fun asserted => (nomatch asserted), fun met => absurd met unmet⟩, fun _ => rfl⟩
  · rename_i cls found
    have met : s.genConditions := (genClass_isSome_iff s).1 (by rw [found]; rfl)
    split
    · exact ⟨⟨fun _ => met, fun _ => rfl⟩, fun low => nomatch low⟩
    · exact ⟨⟨fun _ => met, fun _ => rfl⟩, fun low => nomatch low⟩

/-! #### What GEN_EN depends on -/

/-- `t` has the engine, the segment at P and the levels of `s` that GEN_EN depends on. -/
structure State.SameGen (s t : State) : Prop where
  engine : t.engine = s.engine
  segment : t.segmentAtP = s.segmentAtP
  wireIn : t.threading.wireIn = s.threading.wireIn
  job : t.job.state = s.job.state
  interlock : t.pins.interlock = s.pins.interlock

theorem State.SameGen.refl (s : State) : s.SameGen s := ⟨rfl, rfl, rfl, rfl, rfl⟩

theorem State.SameGen.trans {s t u : State} (h : s.SameGen t) (g : t.SameGen u) : s.SameGen u :=
  ⟨g.engine.trans h.engine, g.segment.trans h.segment, g.wireIn.trans h.wireIn, g.job.trans h.job,
    g.interlock.trans h.interlock⟩

theorem State.SameGen.genFollows {s t : State} (h : s.SameGen t) (follows : s.genFollows) : t.genFollows := by
  have conditions : t.genConditions ↔ s.genConditions := by
    simp only [State.genConditions, h.engine, h.segment, h.wireIn, h.job, h.interlock]
  rw [genFollows_iff] at follows ⊢
  rw [conditions, h.engine]
  exact follows

theorem sameGen_updLink (s : State) (f : Link → Link) : s.SameGen (s.updLink f) := ⟨rfl, rfl, rfl, rfl, rfl⟩

/-! #### The transmitter marks counts as reported, and moves no segment (R61) -/

theorem report_containing (serial retired : Nat) (c : Chain) (p : Nat) :
    (c.report serial retired).containing p = c.containing p := by
  unfold Chain.report
  split <;> rfl

/-- A pass record changed within a cavity. -/
theorem updPass_passes (c : Cavity) (k k' : PassIx) (f : PassRec → PassRec) :
    (c.updPass k f).passes[k'] = if k = k' then f c.passes[k] else c.passes[k'] := by
  simp [Cavity.updPass, Vector.getElem_set, Fin.ext_iff]

/-- The active cavity after a change of the record with an id (R26). -/
theorem activeCavity_updCavity (s : State) (i : CavityId) (f : Cavity → Cavity) :
    (s.updCavity i f).activeCavity = if s.job.active = some i then s.activeCavity.map f else s.activeCavity := by
  simp only [State.activeCavity, State.updCavity, State.updCavities_job]
  cases s.job.active with
  | none => simp
  | some j =>
    by_cases same : j = i
    · simp [State.cavity, same]
    · have other : i.val ≠ j.val := fun e => same (Fin.ext e.symm)
      simp [State.cavity, same, other]

/-- A change of a cavity whose pass chains keep the segment that contains each offset. -/
theorem sameGen_updCavity {s : State} {i : CavityId} {f : Cavity → Cavity}
    (same : ∀ (c : Cavity) (k : PassIx) (p : Nat),
      ((f c).passes[k]).chain.containing p = (c.passes[k]).chain.containing p) : s.SameGen (s.updCavity i f) := by
  refine ⟨rfl, ?_, rfl, rfl, rfl⟩
  simp only [State.segmentAtP, State.activeChain, show (s.updCavity i f).engine = s.engine from rfl]
  cases s.engine.chain with
  | none => rfl
  | some r =>
    cases r with
    | pass k =>
      simp only [Option.bind_some, State.chainOf, activeCavity_updCavity]
      split
      · cases s.activeCavity with
        | none => rfl
        | some c => exact same c k s.engine.p
      · rfl
    | reroute => rfl
    | separation => rfl

/-- A change of one chain that keeps the segment that contains each offset. -/
theorem sameGen_updChain {s : State} {r : ChainRef} {f : Chain → Chain}
    (same : ∀ (c : Chain) (p : Nat), (f c).containing p = c.containing p) : s.SameGen (s.updChain r f) := by
  cases r with
  | pass k =>
    simp only [State.updChain, State.updActive]
    split
    · refine sameGen_updCavity fun c k' p => ?_
      rw [updPass_passes]
      split
      · rename_i changed
        rw [same, changed]
      · rfl
    · exact .refl s
  | reroute | separation =>
    refine ⟨rfl, ?_, rfl, rfl, rfl⟩
    simp only [State.segmentAtP, State.activeChain, State.updChain, State.updStore_engine]
    cases s.engine.chain with
    | none => rfl
    | some r =>
      cases r
      case pass => rfl
      all_goals simp [State.chainOf, Option.bind_map, Function.comp_def, same]

theorem sameGen_markReported (s : State) (c : ProgressContent) : s.SameGen (s.markReported c) := by
  unfold State.markReported
  split
  · refine sameGen_updCavity fun v k p => ?_
    rw [updPass_passes]
    split
    · rename_i changed
      rw [report_containing, changed]
    · rfl
  · exact sameGen_updChain (report_containing _ _)

theorem sameGen_startTransmit (s : State) : s.SameGen s.startTransmit := by
  unfold State.startTransmit
  split
  · exact .refl s
  · split
    · exact sameGen_updLink s _
    · split
      · exact (sameGen_updLink s _).trans (sameGen_markReported _ _)
      · exact sameGen_updLink s _
      · exact .refl s

/-! #### What every command does about GEN_EN -/

/-- The close of a command leaves GEN_EN as its conditions say, whatever came before it. -/
theorem finish_genFollows (atReport : Bool) (s : State) : (s.finish atReport).genFollows :=
  (sameGen_startTransmit _).genFollows (refreshGen_genFollows _ atReport)

/-- The engine is IDLE and GEN_EN low in the power-on state (R16, R86). -/
theorem powerOnState_genFollows (pending power pins rate) : (State.powerOnState pending power pins rate).genFollows := by
  refine ⟨⟨fun asserted => ?_, fun conditions => ?_⟩, fun _ => rfl⟩
  · cases asserted
  · cases conditions.1

theorem beginOperation_genFollows (s : State) (pins rate) : (s.beginOperation pins rate).genFollows :=
  powerOnState_genFollows s.pending ⟨true, true⟩ pins rate

theorem sameGen_receiveByte (s : State) (b : Byte) : s.SameGen (s.receiveByte b) := by
  have checked (got : List Byte) : s.SameGen ((s.updLink Link.hunt).checkFrame got) := by
    unfold State.checkFrame State.validFrame State.restartHeartbeat
    split
    · split <;> exact ⟨rfl, rfl, rfl, rfl, rfl⟩
    · exact sameGen_updLink s _
  unfold State.receiveByte
  split
  · exact .refl s
  · split
    · split
      · exact sameGen_updLink s _
      · exact .refl s
    · dsimp only
      split
      · exact sameGen_updLink s _
      · split
        · exact checked _
        · exact sameGen_updLink s _

theorem sameGen_receiveBytes (bytes : List Byte) (s : State) : s.SameGen (bytes.foldl State.receiveByte s) := by
  induction bytes generalizing s with
  | nil => exact .refl s
  | cons b bytes ih => exact (sameGen_receiveByte s b).trans (ih _)

/-- Every next state that the outcome answers has GEN_EN as its conditions say, if `s` has. -/
def FollowingGen (s : State) (o : Host.Outcome State Fault Refusal) : Prop :=
  ∀ t, s.genFollows → o = .next t → t.genFollows

theorem followingGen_next {s t : State} (h : s.genFollows → t.genFollows) : FollowingGen s (.next t) := by
  rintro _ follows ⟨⟩
  exact h follows

theorem followingGen_whenOperating {s : State} {f : State → State} (h : s.genFollows → (f s).genFollows) :
    FollowingGen s (s.whenOperating f) := by
  refine followingGen_next fun follows => ?_
  split
  · exact h follows
  · exact follows

/-- A request closes when it is decided, and has no effect otherwise. -/
theorem followingGen_request {c : Instr} {r : Byte × Byte × List Byte} (hc : c.request = some r) (s : State) :
    FollowingGen s (exec c s) := by
  obtain ⟨kind, tag, payload⟩ := r
  by_cases decides : s.decides kind tag payload = true
  · by_cases unknown : ∃ k t p, c = .unknownKindRequest k t p
    · obtain ⟨k, t, p, rfl⟩ := unknown
      refine followingGen_next fun follows => ?_
      split
      · exact follows
      · split
        · exact finish_genFollows false _
        · exact follows
    · obtain ⟨owner, decided⟩ := exec_eq_request hc fun k t p e => unknown ⟨k, t, p, e⟩
      rw [decided, State.request, if_pos decides]
      exact followingGen_next fun _ => finish_genFollows false _
  · rw [exec_of_not_decides hc (eq_false_of_ne_true decides)]
    exact followingGen_next id

/-- An event changes nothing that GEN_EN depends on, or closes, or puts the part in its power-on state. -/
theorem followingGen_event {c : Instr} (hc : c.request = none) (s : State) : FollowingGen s (exec c s) := by
  unfold exec
  cases c <;> cases hc
  case powerOn resetN pins =>
    refine followingGen_next fun _ => ?_
    split
    · exact beginOperation_genFollows ..
    · exact powerOnState_genFollows s.pending ⟨true, false⟩ s.pins s.link.rate
  case resetNAssert => exact followingGen_next fun _ => powerOnState_genFollows ..
  case resetNRelease pins =>
    refine followingGen_next fun follows => ?_
    split
    · exact follows
    · split
      · exact beginOperation_genFollows ..
      · exact follows
  case frameTransmitEnd =>
    refine followingGen_whenOperating fun follows => ?_
    split
    · split
      · exact beginOperation_genFollows ..
      · exact ((sameGen_updLink s _).trans (sameGen_startTransmit _)).genFollows follows
    · exact follows
  case receivedByte data framingError =>
    exact followingGen_whenOperating fun follows => (sameGen_receiveByte s data).genFollows follows
  case frameReceive bytes =>
    exact followingGen_whenOperating fun follows => (sameGen_receiveBytes bytes s).genFollows follows
  case interByteGapExpiry =>
    refine followingGen_whenOperating fun follows => ?_
    split
    · exact (sameGen_updLink s _).genFollows follows
    · exact follows
  case pulseDelayExpiry | pulseWidthExpiry | jobClockAdvance => exact followingGen_whenOperating fun follows => follows
  case cutterHomeRise | passSenseRise | tensionSenseRise | tensionSenseFall | clampSenseRise | clampSenseFall |
      interlockFall | interlockRise | dielectricOkFall | spoolLowRise | extInEdge =>
    exact followingGen_whenOperating fun _ => finish_genFollows false _
  case cutterHomeTimeout =>
    refine followingGen_whenOperating fun follows => ?_
    split
    · exact finish_genFollows false _
    · split
      · exact finish_genFollows false _
      · exact follows
  case heartbeatExpiry | windowReport | genSilenceExpiry | driveReply | driveReplyTimerExpiry | pacingTimerExpiry |
      annealExpiry | trimPulseEnd | severPulseEnd | severWithdrawExpiry | passTimeout | tensionTimeout | withdrawExpiry |
      clampWaitExpiry =>
    refine followingGen_whenOperating fun follows => ?_
    split
    · exact finish_genFollows _ _
    · exact follows

theorem followingGen_exec (c : Instr) (s : State) : FollowingGen s (exec c s) := by
  cases hc : c.request with
  | some r => exact followingGen_request hc s
  | none => exact followingGen_event hc s

/-- Settles O60: every command that reaches what GEN_EN depends on refreshes it in its close, and taking a command from the queue
touches none of it. -/
theorem genEnableFollows : Obligations.GenEnableFollows := by
  intro s t follows stepped
  unfold step at stepped
  split at stepped
  · rename_i c rest _
    exact followingGen_exec c (s.withPending rest) t follows stepped
  · exact followingGen_next id t follows stepped

end Sys2Proof.Machine

namespace Sys2Proof.Machine

/-! ### The drive watch (O38) -/

/-! #### The layout of a drive reply (chapter 11.6, R179) -/

theorem u32At_eq_bytes (bs : List Byte) (n : Nat) :
    u32At bs n = byteAt bs n + 2 ^ 8 * byteAt bs (n + 1) + 2 ^ 16 * byteAt bs (n + 2) + 2 ^ 24 * byteAt bs (n + 3) := by
  simp only [u32At, u16At, Nat.add_assoc n 2 1]
  omega

theorem s32At_eq_ite (bs : List Byte) (n : Nat) :
    s32At bs n = if u32At bs n < 2 ^ 31 then (u32At bs n : Int) else (u32At bs n : Int) - 2 ^ 32 := by
  have top : 2 * u32At bs n < 2 ^ 32 ↔ u32At bs n < 2 ^ 31 := by omega
  rw [s32At, BitVec.toInt_eq_toNat_cond, BitVec.toNat_ofNat, Nat.mod_eq_of_lt (u32At_lt bs n)]
  simp only [top]
  rfl

theorem getLsbD_zero_eq (bs : List Byte) (n : Nat) : (bs.getD n 0).getLsbD 0 = decide (byteAt bs n % 2 = 1) :=
  Nat.testBit_zero _

theorem getLsbD_one_eq (bs : List Byte) (n : Nat) : (bs.getD n 0).getLsbD 1 = decide (byteAt bs n / 2 % 2 = 1) := by
  rw [BitVec.getLsbD, Nat.testBit_succ, Nat.testBit_zero]
  rfl

/-! #### Tracking and the watch (R84, R85) -/

/-- The conditions of tracking (R84). -/
theorem tracking_iff (s : State) :
    s.tracking = true ↔ s.engine.state = .idle ∧ s.job.state ∈ [.idle, .loading, .halted, .complete] := by
  simp only [State.tracking, Bool.and_eq_true, decide_eq_true_eq]
  cases s.job.state <;> simp

/-- The engine after a reply's positions are taken: the commanded position alone can change (R84). -/
def State.trackedEngine (s : State) (p : Point) : Engine :=
  if s.engine.state = .idle ∧ s.job.state ∈ [.idle, .loading, .halted, .complete] then { s.engine with commanded := p }
  else s.engine

theorem track_eq (s : State) (p : Point) : s.track p = { s with engine := s.trackedEngine p } := by
  simp only [State.track, State.trackedEngine, tracking_iff]
  split <;> rfl

theorem trackedEngine_state (s : State) (p : Point) : (s.trackedEngine p).state = s.engine.state := by
  unfold State.trackedEngine
  split <;> rfl

/-- The state that a reply leaves before a code is raised: the position tracked, the timer stopped, the fault latched. -/
def State.replyTaken (s : State) (r : DriveReply) : State :=
  { s with engine := s.trackedEngine r.pos, driveWatch := { timer := none, latch := r.faulted } }

/-- Taking a reply raises no code and leaves nothing to select (R35). -/
theorem replyTaken_quiet {s : State} (quiet : s.quiet) (r : DriveReply) : (s.replyTaken r).quiet := by
  have engine : (s.replyTaken r).engine.state = s.engine.state := trackedEngine_state s r.pos
  refine ⟨quiet.1, Eq.trans ?_ quiet.2⟩
  simp only [State.canSelect, engine]
  rfl

/-- The watch raises DRIVE_FAULT on a clear latch alone (R85). -/
theorem driveWatched_track (s : State) (r : DriveReply) :
    (s.track r.pos).driveWatched r =
      if r.faulted = true ∧ s.driveWatch.latch = false then (s.replyTaken r).raise Event.driveFault r.detail
      else s.replyTaken r := by
  rw [track_eq]
  simp only [State.driveWatched, Bool.and_eq_true, Bool.not_eq_true']
  rfl

theorem DriveReply.detail_of_faulted {r : DriveReply} (faulted : r.faulted = true) :
    r.detail = if r.xFault = true then (if r.yFault = true then 3 else 1) else 2 := by
  obtain ⟨pos, x, y⟩ := r
  cases x with
  | true => cases y <;> rfl
  | false =>
    obtain rfl : y = true := faulted
    rfl

/-! #### The two commands -/

theorem exec_driveReply {s : State} {msg : List Byte} {r : DriveReply} (operating : s.operating = true)
    (parsed : parseDriveReply msg = some r) :
    exec (.driveReply msg) s = .next (((s.track r.pos).driveWatched r).finish false) := by
  change execDriveReply msg s = _
  rw [execDriveReply, State.whenOperating_of operating]
  simp only [parsed]

/-- A message of another length than nine bytes is no arrival (R180). -/
theorem exec_driveReply_of_length_ne {s : State} {msg : List Byte} (operating : s.operating = true)
    (length : msg.length ≠ 9) : exec (.driveReply msg) s = .next s := by
  change execDriveReply msg s = _
  rw [execDriveReply, State.whenOperating_of operating]
  simp only [parseDriveReply, if_neg length]

theorem exec_driveReplyTimerExpiry {s : State} (operating : s.operating = true)
    (running : s.driveWatch.timer.isSome = true) :
    let expired : State := { s with driveWatch := { timer := none, latch := true } }
    exec .driveReplyTimerExpiry s =
      .next ((if s.driveWatch.latch = true then expired else expired.raise Event.driveFault 4).finish false) := by
  change execDriveReplyTimerExpiry s = _
  rw [execDriveReplyTimerExpiry, State.whenOperating_of operating, if_pos running]
  rfl

theorem exec_driveReplyTimerExpiry_of_stopped {s : State} (operating : s.operating = true)
    (stopped : s.driveWatch.timer = none) : exec .driveReplyTimerExpiry s = .next s := by
  change execDriveReplyTimerExpiry s = _
  rw [execDriveReplyTimerExpiry, State.whenOperating_of operating]
  simp [stopped]

/-- Settles O38: the fields of a reply are read byte by byte; the watch raises its code on a clear latch alone, and the command
closes as one with nothing to select. -/
theorem driveWatchTakesReplies : Obligations.DriveWatchTakesReplies := by
  refine ⟨fun msg length => ?_, fun s msg operating length => exec_driveReply_of_length_ne operating length,
    fun s msg r operating quiet parsed => ?_, fun s operating quiet => ?_⟩
  · simp only [parseDriveReply, if_pos length, Point.limited, clampCoord, Config.coordMin, Config.coordMax, s32At_eq_ite,
      u32At_eq_bytes, getLsbD_zero_eq, getLsbD_one_eq]
  · have raised (faulted : r.faulted = true) (clear : s.driveWatch.latch = false) :
        (s.track r.pos).driveWatched r =
          (s.replyTaken r).raise Event.driveFault (if r.xFault = true then (if r.yFault = true then 3 else 1) else 2) := by
      rw [driveWatched_track, if_pos ⟨faulted, clear⟩, DriveReply.detail_of_faulted faulted]
    rw [exec_driveReply operating parsed]
    refine ⟨fun known => ?_, fun faulted clear => ?_, fun faulted clear inert => ?_⟩
    · have latched : ¬ (r.faulted = true ∧ s.driveWatch.latch = false) := fun ⟨faulted, clear⟩ => by
        simp [known faulted] at clear
      rw [driveWatched_track, if_neg latched, State.finish_eq_closed (replyTaken_quiet quiet r)]
      rfl
    · rw [raised faulted clear]
      rfl
    · rw [raised faulted clear]
      exact congrArg _ (State.raise_finish_of_inert (replyTaken_quiet quiet r) inert _)
  · refine ⟨exec_driveReplyTimerExpiry_of_stopped operating, fun running latched => ?_, fun running clear => ?_⟩
    · rw [exec_driveReplyTimerExpiry operating running, if_pos latched]
      exact congrArg _ (State.finish_eq_closed (s := { s with driveWatch := _ }) quiet)
    · rw [exec_driveReplyTimerExpiry operating running, clear]
      rfl

end Sys2Proof.Machine

namespace Sys2Proof.Machine

/-! ### The rules the clamp's and the separation chain's proofs use: one record changed, a code raised, a cavity faulted -/

/-- `s` with `c` as the record of `i`. -/
def State.putCavity (s : State) (i : CavityId) (c : Cavity) : State := { s with cavities := s.cavities.set i.val (some c) }

@[simp] theorem cavity_putCavity_same (s : State) (i : CavityId) (c : Cavity) : (s.putCavity i c).cavity i = some c :=
  Vector.getElem_set_self i.isLt

/-- Storing a record touches no other id. -/
theorem cavity_putCavity_other (s : State) {i j : CavityId} (other : j ≠ i) (c : Cavity) :
    (s.putCavity i c).cavity j = s.cavity j :=
  Vector.getElem_set_ne i.isLt j.isLt fun e => other (Fin.ext e.symm)

@[simp] theorem putCavity_putCavity (s : State) (i : CavityId) (c d : Cavity) :
    (s.putCavity i c).putCavity i d = s.putCavity i d := by
  simp only [State.putCavity, Vector.set_set]

theorem updCavity_eq {s : State} {i : CavityId} {c : Cavity} (record : s.cavity i = some c) (f : Cavity → Cavity) :
    s.updCavity i f = s.putCavity i (f c) := by
  have stored : s.cavities[i] = some c := record
  simp only [State.updCavity, State.updCavities, stored, Option.map_some]
  rfl

theorem updActive_eq {s : State} {i : CavityId} {c : Cavity} (active : s.job.active = some i) (record : s.cavity i = some c)
    (f : Cavity → Cavity) : s.updActive f = s.putCavity i (f c) := by
  rw [← updCavity_eq record]
  simp only [State.updActive, active]

/-- Raising a code leaves one entry to hand; of the rest of the state it can change the log and the notice queue alone (R158). -/
theorem raiseFor_eq (s : State) (cavity : Option CavityId) (code : Code) (detail : Nat) :
    s.raiseFor cavity code detail =
      { s with
        log := (s.raiseFor cavity code detail).log
        link := { s.link with notices := (s.raiseFor cavity code detail).link.notices }
        raised := s.raised ++ [{ code := code, actions := s.maps.entry s.maps.active code }] } := by
  simp only [State.raiseFor]
  cases hasLog (s.maps.entry s.maps.active code) <;> cases hasNotify (s.maps.entry s.maps.active code) <;> rfl

theorem raise_eq (s : State) (code : Code) (detail : Nat) :
    s.raise code detail =
      { s with
        log := (s.raise code detail).log
        link := { s.link with notices := (s.raise code detail).link.notices }
        raised := s.raised ++ [{ code := code, actions := s.maps.entry s.maps.active code }] } :=
  raiseFor_eq s s.job.active code detail

/-- A code whose entry holds LOG leaves one record, with the code and the detail (R174, R175). -/
theorem raise_log {s : State} {code : Code} (logs : hasLog (s.maps.entry s.maps.active code) = true) (detail : Nat) :
    (s.raise code detail).log =
      pushLog s.log { code := code, content := s.eventContent s.job.active detail, discontinuity := false } := by
  simp only [State.raise, State.raiseFor, logs]
  cases hasNotify (s.maps.entry s.maps.active code) <;> rfl

end Sys2Proof.Machine

namespace Sys2Proof.Machine

/-! ### The clamp sensor (O46) -/

/-- A confirmed request is HELD by its cavity, and an engine in CLAMP_WAIT cuts on (R92, R142). -/
theorem confirmClamp_of_clampWait {s : State} {i : CavityId} {c : Cavity} (record : s.cavity i = some c)
    (waiting : s.engine.state = .clampWait) :
    s.confirmClamp i =
      { s with
        retention := { s.retention with clamp := .held i, timer := none }
        cavities := s.cavities.set i.val (some { c with effective := some .clamp })
        engine := { s.engine with state := .cutting, prevStep := 0, run := 0, reference := none } } := by
  have held : (s.updRetention fun r => { r with clamp := .held i, timer := none }).cavity i = some c := record
  rw [State.confirmClamp, updCavity_eq held]
  simp only [State.updEngine, State.putCavity, State.updRetention, waiting]
  rfl

/-- A confirmed request is HELD by its cavity, and an engine PAUSED out of CLAMP_WAIT will cut on (R142, R146). -/
theorem confirmClamp_of_paused {s : State} {i : CavityId} {c : Cavity} (record : s.cavity i = some c)
    (paused : s.engine.state = .paused) (resume : s.engine.resume = some .clampWait) :
    s.confirmClamp i =
      { s with
        retention := { s.retention with clamp := .held i, timer := none }
        cavities := s.cavities.set i.val (some { c with effective := some .clamp })
        engine := { s.engine with resume := some .cutting } } := by
  have held : (s.updRetention fun r => { r with clamp := .held i, timer := none }).cavity i = some c := record
  rw [State.confirmClamp, updCavity_eq held]
  simp only [State.updEngine, State.putCavity, State.updRetention, paused, resume, if_true]

/-- The sequencer selects nothing while the engine is not IDLE (R35). -/
theorem canSelect_of_engine_ne_idle {s : State} (busy : s.engine.state ≠ .idle) : s.canSelect = false := by
  simp [State.canSelect, busy]

/-- The sensor's rise with the request of cavity `i` standing, by the state that its confirmation leaves (R142). -/
theorem exec_clampSenseRise_of_requested {s u : State} {i : CavityId} (operating : s.operating = true)
    (requested : s.retention.clamp = .requested i)
    (confirmed : (s.updPins fun p => { p with clampSense := true }).confirmClamp i = u) (quiet : u.quiet)
    (inert : u.inert Event.clampOk = true) :
    exec .clampSenseRise s = .next (u.carried Event.clampOk 1).closed := by
  change execClampSenseRise s = _
  rw [execClampSenseRise, State.whenOperating_of operating]
  simp only [requested, confirmed, State.raise_finish_of_inert quiet inert]

theorem exec_clampSenseRise_of_not_requested {s : State} (operating : s.operating = true) (quiet : s.quiet)
    (unrequested : ∀ i, s.retention.clamp ≠ .requested i) (inert : s.inert Event.clampOk = true) :
    exec .clampSenseRise s =
      .next (State.carried (s.updPins fun p => { p with clampSense := true }) Event.clampOk 0).closed := by
  rw [← State.raise_finish_of_inert (s := s.updPins fun p => { p with clampSense := true }) quiet inert]
  change execClampSenseRise s = _
  rw [execClampSenseRise, State.whenOperating_of operating]
  cases clamp : s.retention.clamp with
  | requested i => exact absurd clamp (unrequested i)
  | free => rfl
  | held i => rfl

theorem exec_clampSenseFall_of_held {s : State} {i : CavityId} (operating : s.operating = true) (quiet : s.quiet)
    (held : s.retention.clamp = .held i) (inert : s.inert Event.clampLost = true) :
    exec .clampSenseFall s =
      .next (State.carried (s.updPins fun p => { p with clampSense := false }) Event.clampLost i.val).closed := by
  rw [← State.raise_finish_of_inert (s := s.updPins fun p => { p with clampSense := false }) quiet inert]
  change execClampSenseFall s = _
  rw [execClampSenseFall, State.whenOperating_of operating]
  simp only [held]

theorem exec_clampSenseFall_of_not_held {s : State} (operating : s.operating = true) (quiet : s.quiet)
    (unheld : ∀ i, s.retention.clamp ≠ .held i) :
    exec .clampSenseFall s = .next (State.closed (s.updPins fun p => { p with clampSense := false })) := by
  rw [← State.finish_eq_closed (s := s.updPins fun p => { p with clampSense := false }) quiet]
  change execClampSenseFall s = _
  rw [execClampSenseFall, State.whenOperating_of operating]
  cases clamp : s.retention.clamp with
  | held i => exact absurd clamp (unheld i)
  | free => rfl
  | requested i => rfl

/-! ### The clamp wait's expiry and the degradation (O46) -/

theorem exec_clampWaitExpiry_of_requested {s : State} {i : CavityId} (operating : s.operating = true)
    (requested : s.retention.clamp = .requested i) (running : s.retention.timer.isSome = true) :
    exec .clampWaitExpiry s =
      .next
        ((settle (State.degrade { s with retention := { clamp := .free, clampReq := false, timer := none } } 1)).finish
          false) := by
  obtain ⟨n, timer⟩ := Option.isSome_iff_exists.1 running
  change execClampWaitExpiry s = _
  rw [execClampWaitExpiry, State.whenOperating_of operating]
  simp only [requested, timer]
  rfl

theorem exec_clampWaitExpiry_of_idle {s : State} (operating : s.operating = true)
    (idle : s.retention.timer = none ∨ ∀ i, s.retention.clamp ≠ .requested i) : exec .clampWaitExpiry s = .next s := by
  change execClampWaitExpiry s = _
  rw [execClampWaitExpiry, State.whenOperating_of operating]
  split
  · rename_i i n requested timer
    rcases idle with stopped | unrequested
    · rw [stopped] at timer
      cases timer
    · exact absurd requested (unrequested i)
  · rfl

/-- The skim chains lie within the coordinate range when every end point of theirs does (R145). -/
theorem skimsInRange_iff (c : Cavity) :
    c.skimsInRange = true ↔
      ∀ g ∈ (c.passes[(1 : PassIx)]).chain.segs ++ (c.passes[(2 : PassIx)]).chain.segs ++
          (c.passes[(3 : PassIx)]).chain.segs,
        -8388608 ≤ g.stop.x ∧ g.stop.x ≤ 8388607 ∧ -8388608 ≤ g.stop.y ∧ g.stop.y ≤ 8388607 := by
  simp only [Cavity.skimsInRange, List.all_cons, List.all_nil, List.all_eq_true, Bool.and_eq_true, and_true, inRange_iff,
    List.forall_mem_append, and_assoc]

/-- The bridge parked, in one: the stack, pass 0 and the bridge length (R57). -/
theorem park_eq (c : Cavity) :
    c.park =
      { c with
        bridge := c.bridge ++ (c.passes[(0 : PassIx)]).chain.fromHold.map fun g => { g with state := .parked }
        passes :=
          c.passes.set 0
            { c.passes[(0 : PassIx)] with
              state := .atHold
              chain :=
                { (c.passes[(0 : PassIx)]).chain with segs := (c.passes[(0 : PassIx)]).chain.beforeHold } }
        bridgeLength := if (c.passes[(0 : PassIx)]).chain.closed = true then
            some (totalLength
              (c.bridge ++ (c.passes[(0 : PassIx)]).chain.fromHold.map fun g => { g with state := .parked }))
          else c.bridgeLength } := by
  unfold Cavity.park
  split
  · rename_i closed
    simp only [closed, if_true]
    rfl
  · rename_i closed
    simp only [closed]
    rfl

/-- The segments from the hold on, and those before it, by the hold offset. -/
theorem fromHold_of_holdOffset {ch : Chain} {o : Nat} (hold : ch.holdOffset = some o) :
    ch.fromHold = ch.segs.filter fun g => decide (o ≤ g.s0) := by
  simp only [Chain.fromHold, hold]

theorem beforeHold_of_holdOffset {ch : Chain} {o : Nat} (hold : ch.holdOffset = some o) :
    ch.beforeHold = ch.segs.filter fun g => decide (g.s0 < o) := by
  simp only [Chain.beforeHold, hold]

/-- Skim chains with nothing appended and nothing held have nothing to move, and nothing off the plane (R145). -/
theorem shiftSkims_inRange_of_empty {c : Cavity}
    (empty : ∀ k : PassIx, k ≠ 0 → (c.passes[k]).chain.appended = 0 ∧ (c.passes[k]).chain.segs = []) :
    c.shiftSkims.skimsInRange = true := by
  have unmoved (old new : Chain) {k : PassIx} (skim : k ≠ 0) : (shiftAfter old new (c.passes[k]).chain).segs = [] := by
    rw [shiftAfter, if_pos (empty k skim).1, (empty k skim).2]
  rw [skimsInRange_iff]
  change ∀ g ∈ (shiftAfter _ _ (c.passes[(1 : PassIx)]).chain).segs ++ (shiftAfter _ _ (c.passes[(2 : PassIx)]).chain).segs ++
    (shiftAfter _ _ (c.passes[(3 : PassIx)]).chain).segs, _
  rw [unmoved _ _ (by decide), unmoved _ _ (by decide), unmoved _ _ (by decide)]
  exact fun g held => nomatch held

/-- What a fault asks of the threading unit touches nothing beside the unit (R120). -/
theorem threadingFault_eq (s : State) (i : CavityId) :
    s.threadingFault i = { s with threading := (s.threadingFault i).threading } := by
  unfold State.threadingFault State.requestSever
  split
  · rfl
  · split
    · split <;> rfl
    · split <;> rfl

/-- The wire of a faulted cavity is severed at once where the job is not PAUSED and no SEVER runs (R120). -/
theorem threadingFault_severs {s : State} {i : CavityId} (free : s.threading.state ≠ .sever) (wire : s.threading.wireIn = true)
    (unpaused : s.job.state ≠ .paused) :
    s.threadingFault i = (s.updThreading fun t => { t with work := none }).beginSever .full .machine i := by
  rw [State.threadingFault, if_neg free, if_pos wire, State.requestSever]
  exact if_neg unpaused

section
variable {s : State} {i : CavityId} {c : Cavity} (active : s.job.active = some i) (record : s.cavity i = some c)
include active record

/-- A bridge with its CLOSE is parked, and the pass completes (R57, R91). -/
theorem parkBridge_of_closed (closed : (c.passes[(0 : PassIx)]).chain.closed = true) :
    s.parkBridge = (s.putCavity i c.park, true) := by
  simp only [State.parkBridge, activeCavity_eq_some active record, closed, if_true, updActive_eq active record]

/-- A bridge without its CLOSE is parked, and the engine waits for it (R57, R93). -/
theorem parkBridge_of_open (closed : (c.passes[(0 : PassIx)]).chain.closed = false) :
    s.parkBridge = ((s.putCavity i c.park).waitAtHold, false) := by
  simp only [State.parkBridge, activeCavity_eq_some active record, closed, updActive_eq active record]
  rfl

/-- What the parking leaves, where the hold is reached by an engine that is not yet STARVED (R57, R91, R93). -/
theorem parkBridge_outcome (busy : s.engine.state ≠ .starved) :
    ∃ t : State, s.parkBridge = (t, (c.passes[(0 : PassIx)]).chain.closed) ∧ t.cavity i = some c.park ∧
      t.engine = (if (c.passes[(0 : PassIx)]).chain.closed = true then s.engine else { s.engine with state := .starved }) ∧
      t.raised.map (fun r => r.code) =
        s.raised.map (fun r => r.code) ++ (if (c.passes[(0 : PassIx)]).chain.closed = true then [] else [Event.starved]) ∧
      t.store = s.store ∧ t.retention = s.retention ∧ t.job = s.job := by
  cases closed : (c.passes[(0 : PassIx)]).chain.closed with
  | true =>
    exact ⟨_, parkBridge_of_closed active record closed, cavity_putCavity_same .., rfl, (List.append_nil _).symm, rfl, rfl,
      rfl⟩
  | false =>
    have waits : (s.putCavity i c.park).waitAtHold = (s.putCavity i c.park).enterStarved := if_neg busy
    refine ⟨_, parkBridge_of_open active record closed, ?_⟩
    rw [waits, State.enterStarved, raise_eq]
    exact ⟨cavity_putCavity_same .., rfl, List.map_append, rfl, rfl, rfl⟩

/-- The degradation where every moved skim stays on the plane (R144, R145). -/
theorem degrade_of_inRange (inRange : c.shiftSkims.skimsInRange = true) (cause : Nat) :
    s.degrade cause =
      ((s.putCavity i { c.shiftSkims with effective := some .bridge }).raise Event.retentionDegraded cause).parkBridge := by
  let bridged : State := s.putCavity i { c with effective := some .bridge }
  have moved : bridged.updActive (fun v => { v with passes := c.shiftSkims.passes }) =
      s.putCavity i { c.shiftSkims with effective := some .bridge } := by
    rw [updActive_eq (s := bridged) active (cavity_putCavity_same ..), putCavity_putCavity]
    rfl
  simp only [State.degrade, active, activeCavity_eq_some active record, inRange, if_true, updActive_eq active record]
  rw [← moved]

/-- The degradation where a moved skim leaves the plane: the cavity faults for GEOMETRY instead (R145). -/
theorem degrade_of_not_inRange (inRange : c.shiftSkims.skimsInRange = false) (cause : Nat) :
    s.degrade cause =
      ((((((s.putCavity i { c with effective := some .bridge }).raise Event.retentionDegraded (cause + 256)).faultCavity i
        .geometry).engineStop).threadingFault i), false) := by
  simp only [State.degrade, active, activeCavity_eq_some active record, inRange, updActive_eq active record]
  rfl

/-- What the degradation leaves where every moved skim stays on the plane (R144, R145). -/
theorem degrade_outcome (inRange : c.shiftSkims.skimsInRange = true) (busy : s.engine.state ≠ .starved) (cause : Nat) :
    ∃ t : State, s.degrade cause = (t, (c.passes[(0 : PassIx)]).chain.closed) ∧
      t.cavity i = some { c.shiftSkims with effective := some .bridge }.park ∧
      t.engine = (if (c.passes[(0 : PassIx)]).chain.closed = true then s.engine else { s.engine with state := .starved }) ∧
      t.raised.map (fun r => r.code) =
        s.raised.map (fun r => r.code) ++
          (if (c.passes[(0 : PassIx)]).chain.closed = true then [Event.retentionDegraded]
            else [Event.retentionDegraded, Event.starved]) ∧
      t.store = s.store ∧ t.retention = s.retention ∧ t.job = s.job := by
  let bridged : Cavity := { c.shiftSkims with effective := some .bridge }
  have raised := raise_eq (s.putCavity i bridged) Event.retentionDegraded cause
  obtain ⟨t, parked, cavity, engine, codes, store, retention, job⟩ :=
    parkBridge_outcome (s := (s.putCavity i bridged).raise Event.retentionDegraded cause) (i := i) (c := bridged)
      (by rw [raised]; exact active) (by rw [raised]; exact cavity_putCavity_same ..) (by rw [raised]; exact busy)
  rw [raised] at engine codes store retention job
  refine ⟨t, (degrade_of_inRange active record inRange cause).trans parked, cavity, engine, codes.trans ?_, store, retention,
    job⟩
  rw [List.map_append, List.append_assoc]
  change _ ++ ([Event.retentionDegraded] ++ if (c.passes[(0 : PassIx)]).chain.closed = true then _ else _) = _
  split <;> rfl

/-- A CLAMP cavity that reaches its hold while another has the clamp degrades with cause BUSY (R141). -/
theorem reachHold_of_taken (chain : s.engine.chain = some (.pass 0)) (planned : c.planned = .clamp)
    (taken : s.retention.clamp ≠ .free) : s.reachHold = s.degrade 2 := by
  simp only [State.reachHold, chain, active, activeCavity_eq_some active record, planned, if_true]

/-- What a GEOMETRY fault of the active cavity leaves, with the engine stopped and the wire asked to be severed (R27, R120). -/
theorem geometryFault_outcome :
    ∃ (t : State) (d : Cavity), ((s.faultCavity i .geometry).engineStop).threadingFault i = t ∧ t.cavity i = some d ∧
      d.state = .faulted ∧ d.fault = (c.fault <|> some .geometry) ∧
      d.effective = c.effective ∧ d.slots = 0 ∧ (∀ j, j ≠ i → t.cavity j = s.cavity j) ∧
      t.store.free = s.store.free + c.slots + ownedSlots s.store.reroute i + ownedSlots s.store.separation i ∧
      t.engine =
        { s.engine with state := .idle, chain := none, p := 0, h := 0, floor := 0, move := none, resume := none } ∧
      t.job = { s.job with active := none } ∧ t.raised = s.raised ∧ t.log = s.log ∧
      (s.threading.state ≠ .sever → s.threading.wireIn = true → s.job.state ≠ .paused →
        t.threading.state = .sever ∧ t.threading.wireIn = false ∧
          t.threading.sever = some { form := .full, phase := .pulse, purpose := .machine, cavity := i }) := by
  let t : State := ((s.faultCavity i .geometry).engineStop).threadingFault i
  let gone : Cavity := { c.emptied with state := .faulted, fault := c.fault <|> some .geometry, attemptsUsed := 0 }
  have same : t = { (s.faultCavity i .geometry).engineStop with threading := t.threading } := threadingFault_eq _ i
  have severs (free : s.threading.state ≠ .sever) (wire : s.threading.wireIn = true) (unpaused : s.job.state ≠ .paused) :
      t = ((s.faultCavity i .geometry).engineStop.updThreading fun u => { u with work := none }).beginSever .full .machine
        i := by
    refine threadingFault_severs ?_ ?_ ?_
    all_goals
      rw [faultCavity_eq record]
      assumption
  rw [faultCavity_eq record] at same severs
  refine ⟨t, gone, rfl, ?_, rfl, rfl, rfl, slots_emptied c, fun j other => ?_, ?_, ?_, ?_, ?_, ?_, fun free wire unpaused => ?_⟩
  · rw [same]
    exact cavity_putCavity_same s i gone
  · rw [same]
    exact cavity_putCavity_other s other gone
  · rw [same]
    rfl
  · rw [same]
    rfl
  · rw [same, active]
    simp only [State.engineStop, State.updEngine_job, if_true]
  · rw [same]
    rfl
  · rw [same]
    rfl
  · rw [severs free wire unpaused]
    exact ⟨rfl, rfl, rfl⟩

/-- What the degradation leaves where a moved skim leaves the plane (R120, R145). -/
theorem degrade_faults (inRange : c.shiftSkims.skimsInRange = false) (cause : Nat) :
    ∃ (t : State) (d : Cavity), s.degrade cause = (t, false) ∧ t.cavity i = some d ∧ d.state = .faulted ∧
      d.fault = (c.fault <|> some .geometry) ∧ d.effective = some .bridge ∧ d.slots = 0 ∧
      (∀ j, j ≠ i → t.cavity j = s.cavity j) ∧
      t.store.free = s.store.free + c.slots + ownedSlots s.store.reroute i + ownedSlots s.store.separation i ∧
      t.engine =
        { s.engine with state := .idle, chain := none, p := 0, h := 0, floor := 0, move := none, resume := none } ∧
      t.job = { s.job with active := none } ∧
      t.raised.map (fun r => r.code) = s.raised.map (fun r => r.code) ++ [Event.retentionDegraded] ∧
      (hasLog (s.maps.entry s.maps.active Event.retentionDegraded) = true →
        ∃ l : LogRecord, t.log = pushLog s.log l ∧ l.code = Event.retentionDegraded ∧ l.content.detail = cause + 256) ∧
      (s.threading.state ≠ .sever → s.threading.wireIn = true → s.job.state ≠ .paused →
        t.threading.state = .sever ∧ t.threading.wireIn = false ∧
          t.threading.sever = some { form := .full, phase := .pulse, purpose := .machine, cavity := i }) := by
  have raised := raise_eq (s.putCavity i { c with effective := some .bridge }) Event.retentionDegraded (cause + 256)
  obtain ⟨t, d, ended, cavity, state, fault, effective, slots, others, free, engine, job, codes, log, severs⟩ :=
    geometryFault_outcome
      (s := (s.putCavity i { c with effective := some .bridge }).raise Event.retentionDegraded (cause + 256)) (i := i)
      (c := { c with effective := some .bridge }) (by rw [raised]; exact active)
      (by rw [raised]; exact cavity_putCavity_same ..)
  have degraded : s.degrade cause = (t, false) :=
    (degrade_of_not_inRange active record inRange cause).trans (congrArg (·, false) ended)
  refine ⟨t, d, degraded, cavity, state, fault, effective, slots, ?_⟩
  have logged (logs : hasLog (s.maps.entry s.maps.active Event.retentionDegraded) = true) :=
    log.trans (raise_log (s := s.putCavity i { c with effective := some .bridge }) logs (cause + 256))
  rw [raised] at others free engine job codes severs
  exact ⟨fun j other => (others j other).trans (cavity_putCavity_other s other _), free, engine, job,
    (congrArg (List.map _) codes).trans List.map_append, fun logs => ⟨_, logged logs, rfl, rfl⟩, severs⟩

end

/-- Settles O46: one equation for each edge of the sensor and for the expiry; what a degradation leaves follows from what parking
and what a GEOMETRY fault leave. -/
theorem clampSensorAndWait : Obligations.ClampSensorAndWait := by
  refine ⟨fun s operating quiet => ⟨?_, ?_, ?_, ?_, ?_, ?_⟩, ?_, ?_⟩
  · intro i c requested record waiting u inert
    have confirmed : (s.updPins fun p => { p with clampSense := true }).confirmClamp i = u :=
      confirmClamp_of_clampWait (s := s.updPins _) record waiting
    exact exec_clampSenseRise_of_requested operating requested confirmed
      ⟨quiet.1, canSelect_of_engine_ne_idle (by simp [u])⟩ inert
  · intro i c requested record paused resume u inert
    have confirmed : (s.updPins fun p => { p with clampSense := true }).confirmClamp i = u :=
      confirmClamp_of_paused (s := s.updPins _) record paused resume
    exact exec_clampSenseRise_of_requested operating requested confirmed
      ⟨quiet.1, canSelect_of_engine_ne_idle (by simp [u, paused])⟩ inert
  · exact exec_clampSenseRise_of_not_requested operating quiet
  · exact fun i held inert => exec_clampSenseFall_of_held operating quiet held inert
  · exact exec_clampSenseFall_of_not_held operating quiet
  · exact exec_clampWaitExpiry_of_idle operating
  · intro s i c o operating quiet requested running active record waiting closed hold empty
    obtain ⟨t, degraded, cavity, engine, codes, store, retention, job⟩ :=
      degrade_outcome (s := { s with retention := { clamp := .free, clampReq := false, timer := none } }) active record
        (shiftSkims_inRange_of_empty empty) (by simp [waiting]) 1
    simp only [closed] at degraded engine codes
    refine ⟨t, _, ?_, retention, engine, ?_, cavity, ?_⟩
    · rw [exec_clampWaitExpiry_of_requested operating requested running, degraded]
      rfl
    · rw [codes]
      simp [quiet.1]
    · rw [park_eq, ← fromHold_of_holdOffset hold, ← beforeHold_of_holdOffset hold]
      exact ⟨rfl, rfl, rfl, rfl, store, job⟩
  · intro s i c active record c0 c1 c2 c3 plus minus moved n1 n2 n3 onPlane bridged u
    have inRange : onPlane ↔ c.shiftSkims.skimsInRange = true := (skimsInRange_iff c.shiftSkims).symm
    refine ⟨fun cause stays => degrade_of_inRange active record (inRange.1 stays) cause, fun cause o stays hold busy => ?_,
      fun cause leaves => degrade_faults active record (by simpa [inRange] using leaves) cause, reachHold_of_taken active record,
      exec_clampWaitExpiry_of_requested⟩
    obtain ⟨t, degraded, cavity, engine, codes, store, retention, job⟩ :=
      degrade_outcome active record (inRange.1 stays) busy cause
    refine ⟨t, _, degraded, cavity, ?_⟩
    rw [park_eq, ← fromHold_of_holdOffset hold, ← beforeHold_of_holdOffset hold]
    exact ⟨rfl, rfl, rfl, rfl, rfl, rfl, rfl, rfl, engine, codes, store, retention, job⟩

end Sys2Proof.Machine

namespace Sys2Proof.Machine

/-! ### The segments of the separation chain (O49) -/

/-- `f` reads neither the sequence nor the start offset of a segment. -/
def NumberBlind {α : Type} (f : Segment → α) : Prop := ∀ (g : Segment) (n o : Nat), f { g with seq := n, s0 := o } = f g

/-- Renumbering changes sequences and start offsets alone (R152). -/
theorem filter_map_renumber {α : Type} {p : Segment → Bool} {f : Segment → α} (hp : NumberBlind p) (hf : NumberBlind f)
    (n o : Nat) (l : List Segment) : ((renumber n o l).filter p).map f = (l.filter p).map f := by
  induction l generalizing n o with
  | nil => rfl
  | cons g l ih =>
    rw [renumber, List.filter_cons, List.filter_cons, hp]
    split
    · rw [List.map_cons, List.map_cons, hf, ih]
    · exact ih ..

theorem map_renumber {α : Type} {f : Segment → α} (hf : NumberBlind f) (n o : Nat) (l : List Segment) :
    (renumber n o l).map f = l.map f := by
  have all (k : List Segment) : k.filter (fun _ => true) = k := List.filter_eq_self.2 fun _ _ => rfl
  simpa only [all] using filter_map_renumber (p := fun _ => true) (fun _ _ _ => rfl) hf n o l

/-- The segments are numbered from `n` on and start each where the one before it ends (R152). -/
theorem getElem?_renumber (n o : Nat) (l : List Segment) (k : Nat) :
    (renumber n o l)[k]? = l[k]?.map fun g => { g with seq := n + k, s0 := o + ((l.take k).map fun x => x.len).sum } := by
  induction l generalizing n o k with
  | nil => rfl
  | cons g l ih =>
    cases k with
    | zero => rfl
    | succ k =>
      rw [renumber, List.getElem?_cons_succ, List.getElem?_cons_succ, ih, List.take_succ_cons, List.map_cons, List.sum_cons]
      simp only [Nat.add_assoc, Nat.add_comm 1 k]

/-- The segments of the separation chain before they are numbered (R152). -/
def Cavity.separationParts (c : Cavity) : List Segment :=
  c.leadIn.map Segment.toLeadIn ++ c.bridge.reverse.map (Segment.toReversed c.sepClass)

theorem separationSegs_eq (c : Cavity) : c.separationSegs = renumber 0 0 c.separationParts := by
  rw [Cavity.separationSegs, Cavity.separationParts, List.map_reverse]

theorem separationSegs_length (c : Cavity) : c.separationSegs.length = c.leadIn.length + c.bridge.length := by
  have lengths := congrArg List.length (map_renumber (f := fun _ => ()) (fun _ _ _ => rfl) 0 0 c.separationParts)
  rw [List.length_map, List.length_map, ← separationSegs_eq] at lengths
  rw [lengths, Cavity.separationParts, List.length_append, List.length_map, List.length_map, List.length_reverse]

/-- The separation chain is as long as the lead-in list and the bridge stack together. -/
theorem separationSegs_totalLength (c : Cavity) :
    (c.separationSegs.map fun g => g.len).sum = (c.leadIn.map fun g => g.len).sum + (c.bridge.map fun g => g.len).sum := by
  rw [separationSegs_eq, map_renumber fun _ _ _ => rfl, Cavity.separationParts, List.map_append, List.sum_append,
    List.map_map, List.map_map, List.map_reverse, List.sum_reverse]
  rfl

/-- Segment `n` of the separation chain: part `n` with its number and its start offset (R152). -/
theorem separationSegs_getElem? {c : Cavity} {n : Nat} {g : Segment} (held : c.separationSegs[n]? = some g) :
    ∃ part, c.separationParts[n]? = some part ∧
      g = { part with seq := n, s0 := ((c.separationSegs.take n).map fun x => x.len).sum } := by
  rw [separationSegs_eq, getElem?_renumber, Option.map_eq_some_iff] at held
  obtain ⟨part, parts, rfl⟩ := held
  have lengths : (c.separationSegs.take n).map (fun x => x.len) = (c.separationParts.take n).map fun x => x.len := by
    rw [separationSegs_eq, List.map_take, List.map_take, map_renumber fun _ _ _ => rfl]
  refine ⟨part, parts, ?_⟩
  rw [lengths, Nat.zero_add, Nat.zero_add]

theorem separationParts_state {c : Cavity} {g : Segment} (held : g ∈ c.separationParts) : g.state = .queued := by
  rcases List.mem_append.1 held with lead | reversed
  · obtain ⟨l, -, rfl⟩ := List.mem_map.1 lead
    rfl
  · obtain ⟨b, -, rfl⟩ := List.mem_map.1 reversed
    rfl

theorem separationParts_getElem?_leadIn {c : Cavity} {n : Nat} (lead : n < c.leadIn.length) :
    c.separationParts[n]? = c.leadIn[n]?.map Segment.toLeadIn := by
  rw [Cavity.separationParts, List.getElem?_append_left (by rwa [List.length_map]), List.getElem?_map]

theorem separationParts_getElem?_bridge {c : Cavity} {n : Nat} (past : c.leadIn.length ≤ n) :
    c.separationParts[n]? = c.bridge.reverse[n - c.leadIn.length]?.map (Segment.toReversed c.sepClass) := by
  rw [Cavity.separationParts, List.getElem?_append_right (by rwa [List.length_map]), List.length_map, List.getElem?_map]

/-- The DRY segments of the separation chain are the lead-in segments (R152, R155). -/
theorem map_dry_separationSegs {α : Type} {f : Segment → α} (hf : NumberBlind f) (c : Cavity) :
    (c.separationSegs.filter fun g => decide (g.mode = .dry)).map f = c.leadIn.map fun g => f g.toLeadIn := by
  have lead : (c.leadIn.map Segment.toLeadIn).filter (fun g => decide (g.mode = .dry)) = c.leadIn.map Segment.toLeadIn :=
    List.filter_eq_self.2 fun g held => by
      obtain ⟨l, -, rfl⟩ := List.mem_map.1 held
      rfl
  have reversed : (c.bridge.reverse.map (Segment.toReversed c.sepClass)).filter (fun g => decide (g.mode = .dry)) = [] :=
    List.filter_eq_nil_iff.2 fun g held => by
      obtain ⟨b, -, rfl⟩ := List.mem_map.1 held
      exact Bool.false_ne_true
  rw [separationSegs_eq, filter_map_renumber (fun _ _ _ => rfl) hf, Cavity.separationParts, List.filter_append, lead,
    reversed, List.append_nil, List.map_map]
  rfl

/-- The CUT segments of the separation chain are the reversed bridge segments (R152, R155). -/
theorem map_cut_separationSegs {α : Type} {f : Segment → α} (hf : NumberBlind f) (c : Cavity) :
    (c.separationSegs.filter fun g => decide (g.mode = .cut)).map f =
      c.bridge.reverse.map fun g => f (g.toReversed c.sepClass) := by
  have lead : (c.leadIn.map Segment.toLeadIn).filter (fun g => decide (g.mode = .cut)) = [] :=
    List.filter_eq_nil_iff.2 fun g held => by
      obtain ⟨l, -, rfl⟩ := List.mem_map.1 held
      exact Bool.false_ne_true
  have reversed : (c.bridge.reverse.map (Segment.toReversed c.sepClass)).filter (fun g => decide (g.mode = .cut)) =
      c.bridge.reverse.map (Segment.toReversed c.sepClass) :=
    List.filter_eq_self.2 fun g held => by
      obtain ⟨b, -, rfl⟩ := List.mem_map.1 held
      rfl
  rw [separationSegs_eq, filter_map_renumber (fun _ _ _ => rfl) hf, Cavity.separationParts, List.filter_append, lead,
    reversed, List.nil_append, List.map_map]
  rfl

/-- A bridge segment reversed and turned back runs as it did (R155). -/
theorem turnedBack_toReversed (cls : ClassIx) (b : Segment) :
    (b.toReversed cls).turnedBack =
      { b with mode := .cut, feedClass := cls, entry := false, hold := false, close := false, state := .parked } := by
  simp only [Segment.turnedBack, Segment.toReversed, Int.neg_neg]

/-! ### The selection for separation, its undoing and its end (O49) -/

theorem setCavState_eq {s : State} {i : CavityId} {c : Cavity} (record : s.cavity i = some c) (st : CavState) :
    s.setCavState i st =
      (s.putCavity i { c with state := st }).updJob fun j =>
        { j with active := if st.isActive then some i else if j.active = some i then none else j.active } := by
  rw [State.setCavState, updCavity_eq record]

/-- The start point of the rough contour: the end of the lead-in, or the start hole without one (R151). -/
def Cavity.entryStart (c : Cavity) : Point :=
  match c.leadIn.getLast? with
  | some l => l.stop
  | none => c.hole

theorem contourCloses_iff (c : Cavity) :
    c.contourCloses = true ↔ ∃ g, c.bridge.getLast? = some g ∧ g.stop = c.entryStart := by
  unfold Cavity.contourCloses
  split
  · rename_i g last
    rw [last, decide_eq_true_eq]
    exact ⟨fun meets => ⟨g, rfl, meets⟩, fun ⟨h, same, meets⟩ => Option.some.inj same ▸ meets⟩
  · rename_i last
    rw [last]
    exact ⟨fun no => (nomatch no), fun ⟨_, no, _⟩ => (nomatch no)⟩

/-- The cavity as a selection for separation marks it (R36). -/
def Cavity.selected (c : Cavity) : Cavity := { c with state := .separating, sepSelected := true, attemptsUsed := 0 }

/-- The separation chain of a cavity under its number (R152). -/
def Cavity.separationChain (c : Cavity) (serial : Nat) : Chain :=
  { Chain.new serial with
    segs := c.separationSegs, appended := c.separationSegs.length, nextSeq := c.separationSegs.length, closed := true
    endOffset := totalLength c.separationSegs
    endPoint := match c.separationSegs.getLast? with
      | some g => g.stop
      | none => c.hole }

/-- The state with the cavity selected for separation and its chain built (R36, R152). -/
def State.withSeparation (s : State) (i : CavityId) (c : Cavity) : State :=
  { s.putCavity i { c.selected with leadIn := [], bridge := [] } with
    job := { s.job with active := some i }
    store :=
      { s.store with
        separation := some { owner := i, chain := c.separationChain s.store.nextSerial }
        nextSerial := s.store.nextSerial + 1 } }

/-- The cavity with the segments of its separation chain back in its lead-in list and its bridge stack (R155). -/
def Cavity.takeBack (c : Cavity) (segs : List Segment) : Cavity :=
  { c with
    leadIn := c.leadIn ++ (segs.filter fun g => decide (g.mode = .dry)).map fun g => { g with state := .leadIn }
    bridge := c.bridge ++ (segs.filter fun g => decide (g.mode = .cut)).reverse.map Segment.turnedBack }

theorem updCavity_updJob (s : State) (i : CavityId) (f : Cavity → Cavity) (g : Job → Job) :
    (s.updJob g).updCavity i f = (s.updCavity i f).updJob g := rfl

section
variable {s : State} {i : CavityId} {c : Cavity} (record : s.cavity i = some c)
include record

/-- A selection for separation first marks the cavity and makes it the active one (R26, R36). -/
theorem selectSeparation_eq :
    s.selectSeparation i =
      let marked := (s.putCavity i c.selected).updJob fun j => { j with active := some i }
      if c.contourCloses = true then (marked.buildSeparation i c).moveToSelected i else marked.faultCavity i .geometry := by
  have selected : (s.setCavState i .separating).updCavity i (fun v => { v with sepSelected := true, attemptsUsed := 0 }) =
      (s.putCavity i c.selected).updJob fun j => { j with active := some i } := by
    rw [setCavState_eq record, updCavity_updJob, updCavity_eq (cavity_putCavity_same ..), putCavity_putCavity]
    rfl
  simp only [State.selectSeparation, record, selected]

theorem selectSeparation_of_closes (vacant : s.store.separation = none) (closes : c.contourCloses = true) :
    s.selectSeparation i = (s.withSeparation i c).moveToSelected i := by
  have built : State.buildSeparation ((s.putCavity i c.selected).updJob fun j => { j with active := some i }) i c =
      s.withSeparation i c := by
    rw [State.buildSeparation, updCavity_updJob, updCavity_eq (cavity_putCavity_same ..), putCavity_putCavity]
    simp only [State.updStore, State.updJob, State.putCavity, vacant, heldBy_none, Nat.add_zero]
    rfl
  rw [selectSeparation_eq record]
  simp only [closes, if_true, built]

theorem selectSeparation_of_open (closes : c.contourCloses = false) :
    s.selectSeparation i =
      ((s.putCavity i c.selected).updJob fun j => { j with active := some i }).faultCavity i .geometry := by
  rw [selectSeparation_eq record]
  simp only [closes]
  rfl

/-- A cavity's separation chain taken apart: its DRY segments, then its CUT ones turned back, and the chain is gone (R155). -/
theorem dismantle_eq {o : OwnedChain} (chain : s.store.separation = some o) (owner : o.owner = i) :
    s.dismantle i = (s.putCavity i (c.takeBack o.chain.segs)).separationCeases := by
  simp only [State.dismantle, chain, owner, if_true, updCavity_eq record, Cavity.takeBack]

end

/-- The start hole of the cavity that has been selected is where it was. -/
theorem holeOf_withSeparation (s : State) (i : CavityId) (c : Cavity) : (s.withSeparation i c).holeOf i = c.hole := by
  have record : (s.withSeparation i c).cavity i = some { c.selected with leadIn := [], bridge := [] } :=
    cavity_putCavity_same ..
  simp only [State.holeOf, record]
  rfl

/-- Away from the start hole the position is brought over it (R36). -/
theorem moveToSelected_withSeparation_of_ne {s : State} {i : CavityId} {c : Cavity} (away : s.engine.commanded ≠ c.hole)
    (still : s.engine.move = none) :
    (s.withSeparation i c).moveToSelected i =
      { s.withSeparation i c with
        engine :=
          { s.engine with
            state := .rapid, move := some (.rapid s.engine.commanded c.hole 0 .sequencer s.engine.state) } } := by
  rw [State.moveToSelected, holeOf_withSeparation]
  refine (if_neg away).trans ?_
  have move : (s.withSeparation i c).engine.move = none := still
  simp only [State.beginMove, State.updEngine, move]
  rfl

/-- Over the start hole the threading for the separation begins (R36, R107). -/
theorem moveToSelected_withSeparation_of_eq {s : State} {i : CavityId} {c : Cavity} (there : s.engine.commanded = c.hole) :
    (s.withSeparation i c).moveToSelected i = (s.withSeparation i c).beginThreading .separation c.hole i := by
  have active : (s.withSeparation i c).activeCavity = some { c.selected with leadIn := [], bridge := [] } :=
    cavity_putCavity_same ..
  have purpose : (s.withSeparation i c).selectedPurpose = .separation := by
    simp only [State.selectedPurpose, active]
    rfl
  rw [State.moveToSelected, State.threadSelected, holeOf_withSeparation, purpose]
  exact if_pos there

/-- All segments of the separation chain are retired at its end, and their slots are free (R53, R54). -/
theorem retireAll_separation_eq {s : State} {o : OwnedChain} (chain : s.store.separation = some o) :
    s.retireAll .separation =
      { s with
        store :=
          { s.store with
            free := s.store.free + o.chain.segs.length
            separation :=
              some { o with chain := { o.chain with segs := [], retired := o.chain.retired + o.chain.segs.length } } } } := by
  have held : s.chainOf .separation = some o.chain := by simp only [State.chainOf, chain, Option.map_some]
  simp only [State.retireAll, held, State.dispose, State.updChain, State.freeSlots, State.updStore, chain]
  rfl

/-- Dropping a chain's reports reads its number alone (R61). -/
theorem dropReports_of_serial {o p : OwnedChain} (serial : o.chain.serial = p.chain.serial) (r : ChainRef) (q : List Notice) :
    dropReports r (some o) q = dropReports r (some p) q := by
  refine List.filter_congr fun n _ => ?_
  cases n with
  | progress x => simp only [Notice.reports, serial]
  | event code content => rfl

/-- Raising a code queues no PROGRESS notice. -/
theorem progress_mem_raiseFor {s : State} {cavity : Option CavityId} {code : Code} {detail : Nat} {x : ProgressContent}
    (queued : Notice.progress x ∈ (s.raiseFor cavity code detail).link.notices) : Notice.progress x ∈ s.link.notices := by
  have offered (q : List Notice) (content : EventContent) (held : Notice.progress x ∈ offerNotice q (.event code content)) :
      Notice.progress x ∈ q := by
    rw [offerNotice, Notice.isProgress, Bool.false_and, if_neg Bool.false_ne_true] at held
    split at held
    · exact (List.mem_append.1 held).resolve_right fun last => nomatch List.mem_singleton.1 last
    · exact held
  revert queued
  simp only [State.raiseFor]
  cases hasNotify (s.maps.entry s.maps.active code) <;> cases hasLog (s.maps.entry s.maps.active code)
  · exact id
  · exact id
  · exact offered _ _
  · exact offered _ _

/-- What a contour that does not close leaves (R36, R151). -/
theorem selectSeparation_faults {s : State} {i : CavityId} {c : Cavity} (record : s.cavity i = some c)
    (vacant : s.store.separation = none) (closes : c.contourCloses = false) :
    ∃ (t : State) (d : Cavity), s.selectSeparation i = t ∧ t.cavity i = some d ∧ d.state = .faulted ∧
      d.fault = (c.fault <|> some .geometry) ∧ d.sepSelected = true ∧ d.slots = 0 ∧
      (∀ j, j ≠ i → t.cavity j = s.cavity j) ∧ t.store.separation = none ∧
      t.store.free = s.store.free + c.slots + ownedSlots s.store.reroute i ∧ t.job = { s.job with active := none } ∧
      t.engine = s.engine ∧ t.threading = s.threading ∧ t.recovery = s.recovery ∧ t.raised = s.raised ∧
      t.sepQueue = s.sepQueue.filter (fun j => decide (j ≠ i)) ∧
      t.link = { s.link with notices := s.withoutReportsOf i s.link.notices } ∧ t.sameSettings s := by
  let marked : State := (s.putCavity i c.selected).updJob fun j => { j with active := some i }
  let gone : Cavity := { c.selected.emptied with state := .faulted, fault := c.fault <|> some .geometry, attemptsUsed := 0 }
  have marks : marked.cavity i = some c.selected := cavity_putCavity_same ..
  have vacated : marked.store.separation = none := vacant
  have active : marked.job.active = some i := rfl
  refine ⟨_, gone, (selectSeparation_of_open record closes).trans (faultCavity_eq marks .geometry), ?_⟩
  simp only [vacated, active, if_true, withoutOwner_none, ownedSlots_none, Nat.add_zero, true_and]
  exact ⟨cavity_putCavity_same marked i gone, rfl, rfl, rfl, slots_emptied c.selected,
    fun j other => (cavity_putCavity_other marked other gone).trans (cavity_putCavity_other s other c.selected),
    rfl, rfl, rfl, rfl, rfl, rfl, rfl, rfl,
    ⟨rfl, rfl, rfl, rfl, rfl, rfl, rfl⟩, ⟨rfl, rfl, rfl, rfl, rfl, rfl, rfl, rfl⟩⟩

/-- What of a segment a dismantled separation chain keeps: its geometry (R155). -/
def Segment.shape (g : Segment) : Int × Int × Nat × Point × Point := (g.dx, g.dy, g.len, g.start, g.stop)

/-- A separation chain taken apart just after it was built gives back the geometry of the lead-in list and the bridge (R155). -/
theorem dismantle_withSeparation (s : State) (i : CavityId) (c : Cavity) :
    ∃ (t : State) (d : Cavity), (s.withSeparation i c).dismantle i = t ∧ t.cavity i = some d ∧
      d.leadIn.map Segment.shape = c.leadIn.map Segment.shape ∧ d.bridge.map Segment.shape = c.bridge.map Segment.shape ∧
      (∀ g ∈ d.leadIn, g.state = .leadIn ∧ g.mode = .dry) ∧
      (∀ g ∈ d.bridge, g.state = .parked ∧ g.mode = .cut ∧ g.feedClass = c.sepClass) ∧ t.store.separation = none ∧
      t.store.free = s.store.free ∧
      t.link =
        { s.link with
          notices := dropReports .separation (s.withSeparation i c).store.separation s.link.notices } := by
  have record : (s.withSeparation i c).cavity i = some { c.selected with leadIn := [], bridge := [] } :=
    cavity_putCavity_same ..
  have blind : NumberBlind Segment.shape := fun _ _ _ => rfl
  refine ⟨_, _, dismantle_eq record rfl rfl, cavity_putCavity_same .., ?_, ?_, fun g held => ?_, fun g held => ?_, rfl, rfl,
    rfl⟩
  · change (List.map _ (c.separationSegs.filter _)).map _ = _
    rw [List.map_map]
    exact map_dry_separationSegs blind c
  · change (List.map _ (c.separationSegs.filter _).reverse).map _ = _
    rw [List.map_map, List.map_reverse, map_cut_separationSegs (fun _ _ _ => rfl), ← List.map_reverse, List.reverse_reverse]
    refine List.map_congr_left fun b _ => ?_
    exact (congrArg Segment.shape (turnedBack_toReversed c.sepClass b)).trans rfl
  · obtain ⟨l, kept, rfl⟩ := List.mem_map.1 held
    exact ⟨rfl, of_decide_eq_true (List.mem_filter.1 kept).2⟩
  · obtain ⟨b, kept, rfl⟩ := List.mem_map.1 held
    have cut := List.mem_reverse.1 kept
    refine ⟨rfl, of_decide_eq_true (List.mem_filter.1 cut).2, ?_⟩
    have classes := map_cut_separationSegs (f := Segment.feedClass) (fun _ _ _ => rfl) c
    have classed : b.feedClass ∈ c.bridge.reverse.map fun g => (g.toReversed c.sepClass).feedClass :=
      classes ▸ List.mem_map_of_mem cut
    obtain ⟨_, -, same⟩ := List.mem_map.1 classed
    exact same.symm

/-- The end of the separation chain, but for the choices that the model leaves free (R96, R154). -/
theorem chainEnd_separation {s : State} {i : CavityId} {o : OwnedChain} (active : s.job.active = some i)
    (chain : s.store.separation = some o) (engine : s.engine.chain = some .separation) :
    s.chainEnd =
      State.beginSever
        (State.raise
          { s with
            store :=
              { s.store with
                free := s.store.free + o.chain.segs.length
                separation :=
                  if Config.separationCeasesAtEnd = true then none
                  else
                    some
                      { o with
                        chain := { o.chain with segs := [], retired := o.chain.retired + o.chain.segs.length } } }
            link :=
              { s.link with
                notices :=
                  if Config.separationCeasesAtEnd = true then dropReports .separation (some o) s.link.notices
                  else s.link.notices }
            engine :=
              { s.engine with
                state := .idle, chain := none, p := 0, h := 0, floor := 0, move := none, resume := none
                commanded := if Config.separationHoldsAtHole = true then s.holeOf i else s.engine.commanded } }
          Event.separationDone i.val) .full .separation i := by
  have ended : s.chainEnd = s.separationEnd := by simp only [State.chainEnd, engine]
  simp only [ended, State.separationEnd, active]
  refine congrArg (fun u => (State.raise u Event.separationDone i.val).beginSever .full .separation i) ?_
  rw [placeAtSeparationEnd_eq, dropEndedSeparation_eq, retireAll_separation_eq chain]
  simp only [dropReports_of_serial (o := { o with chain := { o.chain with segs := [], retired := _ } }) (p := o) rfl]
  rfl

theorem faultPolicy_of_skip {s : State} (skip : s.params.faultPolicy = .skip) : s.faultPolicy = s := by
  simp only [State.faultPolicy, skip]

/-- What a failed threading for the separation leaves under SKIP (R114, R121, R155). -/
theorem handFailed_separation {s : State} {w : Attempting} {c : Cavity} {o : OwnedChain} (purpose : w.purpose = .separation)
    (record : s.cavity w.cavity = some c) (chain : s.store.separation = some o) (owner : o.owner = w.cavity)
    (skip : s.params.faultPolicy = .skip) :
    ∃ (t : State) (d : Cavity), s.handFailed w = t ∧ t.cavity w.cavity = some d ∧ d.state = .retained ∧
      d.leadIn = c.leadIn ++ (o.chain.segs.filter fun g => decide (g.mode = .dry)).map (fun g => { g with state := .leadIn }) ∧
      d.bridge = c.bridge ++ (o.chain.segs.filter fun g => decide (g.mode = .cut)).reverse.map Segment.turnedBack ∧
      t.store = { s.store with separation := none } ∧
      t.job.active = (if s.job.active = some w.cavity then none else s.job.active) ∧ t.engine = s.engine ∧
      t.threading = s.threading ∧
      (∀ x, Notice.progress x ∈ t.link.notices → x.chain = .separation → x.serial ≠ o.chain.serial) ∧
      t.raised.map (fun r => r.code) = s.raised.map (fun r => r.code) ++ [Event.threadExhausted] := by
  let taken : Cavity := c.takeBack o.chain.segs
  let kept : State := (s.dismantle w.cavity).setCavState w.cavity .retained
  let t : State := kept.raiseFor (some w.cavity) Event.threadExhausted w.attempt
  have kept_eq : kept =
      ((s.putCavity w.cavity taken).separationCeases.putCavity w.cavity { taken with state := .retained }).updJob fun j =>
        { j with active := if j.active = some w.cavity then none else j.active } := by
    have back : (s.putCavity w.cavity taken).separationCeases.cavity w.cavity = some taken := cavity_putCavity_same ..
    exact (congrArg (State.setCavState · w.cavity .retained) (dismantle_eq record chain owner)).trans
      (setCavState_eq back .retained)
  have t_eq : t = _ := raiseFor_eq kept (some w.cavity) Event.threadExhausted w.attempt
  have handed : s.handFailed w = t := by
    have skips : t.params.faultPolicy = .skip := by
      rw [t_eq, kept_eq]
      exact skip
    simp only [State.handFailed, purpose]
    exact faultPolicy_of_skip skips
  have unreported (x : ProgressContent) (queued : Notice.progress x ∈ t.link.notices) (separation : x.chain = .separation) :
      x.serial ≠ o.chain.serial := by
    have stays : Notice.progress x ∈ dropReports .separation s.store.separation s.link.notices := by
      have held := progress_mem_raiseFor queued
      rw [kept_eq] at held
      exact held
    have other := (mem_dropReports.1 stays).2 o chain
    simpa [Notice.reports, separation] using other
  refine ⟨t, { taken with state := .retained }, handed, ?_, rfl, rfl, rfl, ?_, ?_, ?_, ?_, unreported, ?_⟩
  all_goals rw [t_eq, kept_eq]
  · exact cavity_putCavity_same ..
  · rfl
  · rfl
  · rfl
  · rfl
  · exact List.map_append

/-- Settles O49: the chain's segments are its numbered parts, so what reads no number survives its building and its undoing; each
selection, the end and the failed threading are one equation of the model's operations. -/
theorem separationChainReversesBridge : Obligations.SeparationChainReversesBridge := by
  refine ⟨fun c => ⟨separationSegs_length c, separationSegs_totalLength c, fun n g held => ?_, fun b parked => ?_⟩,
    fun s i c record vacant => ?_, fun s i o active chain engine => ?_, fun s w c o purpose record chain owner skip => ?_⟩
  · obtain ⟨part, parts, same⟩ := separationSegs_getElem? held
    have s0 : g.s0 = ((c.separationSegs.take n).map fun x => x.len).sum := by rw [same]
    rw [← s0] at same
    have queued : part.state = .queued := separationParts_state (List.mem_of_getElem? parts)
    refine ⟨congrArg Segment.seq same, s0, (congrArg Segment.state same).trans queued, fun l lead held => ?_,
      fun b past held => ?_⟩
    · rw [separationParts_getElem?_leadIn lead, held] at parts
      obtain rfl := Option.some.inj parts
      exact same
    · rw [separationParts_getElem?_bridge past, held] at parts
      obtain rfl := Option.some.inj parts
      exact same
  · intro back
    have turned : back = _ := turnedBack_toReversed c.sepClass b
    rw [turned]
    exact ⟨rfl, rfl, rfl, rfl, rfl, rfl⟩
  · intro entryStart closes segs built
    have closes_iff : closes ↔ c.contourCloses = true := (contourCloses_iff c).symm
    refine ⟨fun meets away still => ?_, fun meets there => ?_, fun misses => ?_, dismantle_withSeparation s i c⟩
    · rw [selectSeparation_of_closes record vacant (closes_iff.1 meets), moveToSelected_withSeparation_of_ne away still]
      rfl
    · rw [selectSeparation_of_closes record vacant (closes_iff.1 meets), moveToSelected_withSeparation_of_eq there]
      rfl
    · exact selectSeparation_faults record vacant (by simpa [closes_iff] using misses)
  · exact chainEnd_separation active chain engine
  · exact handFailed_separation purpose record chain owner skip

end Sys2Proof.Machine

namespace Sys2Proof.Machine

/-! ### CAVITY_QUERY (O26) -/

/-- A field of a part of a record stands in the record behind the part's beginning. -/
theorem field_of_part {bs part field : List Byte} {n m : Nat} (whole : part <+: bs.drop n)
    (inner : field <+: part.drop m) : field <+: bs.drop (n + m) := by
  obtain ⟨rest, whole⟩ := whole
  rw [← List.drop_drop, ← whole, List.drop_append]
  exact inner.trans ⟨_, rfl⟩

theorem Method.code_lt (m : Method) : m.code < 256 := by cases m <;> decide
theorem FaultReason.code_lt (r : FaultReason) : r.code < 256 := by cases r <;> decide
theorem PassState.code_lt (p : PassState) : p.code < 256 := by cases p <;> decide

/-! #### A pass in the report -/

section pass

variable (s : State) (i : CavityId) (k : PassIx) (p : PassRec)

/-- The fields of a pass record in their order (chapter 11.5). -/
def State.passFields : List (List Byte) :=
  [enc8 p.state.code, enc8 (flagBit p.chain.closed 0 + flagBit p.chain.holdOffset.isSome 1), enc32 p.chain.appended,
    enc32 (p.chain.holdOffset.getD 0), enc32 (s.passPH i k p).1, enc32 (s.passPH i k p).2, enc32 p.chain.retired]

theorem passReport_eq : s.passReport i k p = (s.passFields i k p).flatten := by
  simp only [State.passReport, State.passFields, List.flatten_cons, List.flatten_nil, List.append_nil, List.append_assoc]

@[simp] theorem passReport_length : (s.passReport i k p).length = 22 := by
  simp only [State.passReport, List.length_append, enc8_length, enc32_length]

/-- The offset of field `j` of a pass record: the lengths of the fields before it (chapter 11.5). -/
def passOffset (j : Nat) : Nat := ([1, 1, 4, 4, 4, 4, 4].take j).sum

/-- A field of a pass record stands behind the fields before it. -/
theorem passReport_field {j : Nat} {field : List Byte} (h : (s.passFields i k p)[j]? = some field) :
    field <+: (s.passReport i k p).drop (passOffset j) := by
  rw [passReport_eq]
  exact field_of_flatten h

variable {s i k}

/-- The active chain of the active cavity reports the present P and H (R178). -/
theorem passPH_of_present (present : s.job.active = some i ∧ s.engine.chain = some (.pass k)) :
    s.passPH i k p = (s.engine.p, s.engine.h) := if_pos present

/-- Every other pass reports the P and H of its record (R178). -/
theorem passPH_of_not_present (absent : ¬ (s.job.active = some i ∧ s.engine.chain = some (.pass k))) :
    s.passPH i k p = (p.savedP, p.savedH) := if_neg absent

/-- The flags byte of a pass record, bit by bit (chapter 11.5). -/
theorem passFlags_mod (closed hold : Bool) :
    (flagBit closed 0 + flagBit hold 1) % 256 = (if closed then 1 else 0) + (if hold then 2 else 0) := by
  revert closed hold
  decide

end pass

/-! #### The report -/

section report

variable (s : State) (i : CavityId) (c : Cavity)

/-- The fields of the cavity report in their order, the hole in its coordinates and each pass record as one (chapter 11.5). -/
def State.cavityFields : List (List Byte) :=
  [enc8 i.val, enc32 c.tag.toNat, encS32 c.hole.x, encS32 c.hole.y, enc8 c.profile.val, enc8 c.planned.code,
    enc8 ((c.effective.map Method.code).getD 0xFF), enc8 c.passCount, enc8 c.sepClass.val, enc8 c.state.code,
    enc8 c.currentPass.val, enc8 c.breakCount, enc8 c.attemptsUsed, enc8 ((c.fault.map FaultReason.code).getD 0xFF),
    enc32 (c.bridgeLength.getD 0xFFFFFFFF), enc8 (flagBit c.sepSelected 0), s.passReport i 0 c.passes[(0 : PassIx)],
    s.passReport i 1 c.passes[(1 : PassIx)], s.passReport i 2 c.passes[(2 : PassIx)],
    s.passReport i 3 c.passes[(3 : PassIx)]]

theorem cavityReport_eq : s.cavityReport i c = (s.cavityFields i c).flatten := by
  simp only [State.cavityReport, State.cavityFields, encPoint, List.flatten_cons, List.flatten_nil, List.append_nil,
    List.append_assoc]

theorem cavityReport_length : (s.cavityReport i c).length = 116 := by
  simp only [State.cavityReport, List.length_append, enc8_length, enc32_length, encPoint_length, passReport_length]

theorem cavityFields_lengths :
    (s.cavityFields i c).map List.length = [1, 4, 4, 4, 1, 1, 1, 1, 1, 1, 1, 1, 1, 1, 4, 1, 22, 22, 22, 22] := by
  simp only [State.cavityFields, List.map_cons, List.map_nil, enc8_length, enc32_length, encS32_length, passReport_length]

/-- The offset of field `j` of the cavity report: the lengths of the fields before it (chapter 11.5). -/
def cavityOffset (j : Nat) : Nat := ([1, 4, 4, 4, 1, 1, 1, 1, 1, 1, 1, 1, 1, 1, 4, 1, 22, 22, 22, 22].take j).sum

/-- A field of the cavity report stands behind the fields before it. -/
theorem cavityReport_field {j : Nat} {field : List Byte} (h : (s.cavityFields i c)[j]? = some field) :
    field <+: (s.cavityReport i c).drop (cavityOffset j) := by
  rw [cavityOffset, ← cavityFields_lengths s i c, cavityReport_eq]
  exact field_of_flatten h

theorem byteAt_cavityReport {j v : Nat} (h : (s.cavityFields i c)[j]? = some (enc8 v)) :
    byteAt (s.cavityReport i c) (cavityOffset j) = v % 256 := byteAt_of_field (cavityReport_field s i c h)

/-- The record of pass `k` stands at 28 + 22 k (chapter 11.5). -/
theorem cavityReport_pass (k : PassIx) :
    s.passReport i k c.passes[k] <+: (s.cavityReport i c).drop (28 + 22 * k.val) := by
  have offset : cavityOffset (16 + k.val) = 28 + 22 * k.val := by
    revert k
    decide
  have stands : (s.cavityFields i c)[16 + k.val]? = some (s.passReport i k c.passes[k]) := by
    match k with
    | 0 | 1 | 2 | 3 => rfl
  rw [← offset]
  exact cavityReport_field s i c stands

/-- A field of the record of pass `k` stands in the report behind 28 + 22 k. -/
theorem cavityReport_passField (k : PassIx) {j : Nat} {field : List Byte}
    (h : (s.passFields i k c.passes[k])[j]? = some field) :
    field <+: (s.cavityReport i c).drop (28 + 22 * k.val + passOffset j) :=
  field_of_part (cavityReport_pass s i c k) (passReport_field s i k _ h)

theorem u32At_cavityReport_pass (k : PassIx) {j v : Nat} (h : (s.passFields i k c.passes[k])[j]? = some (enc32 v)) :
    u32At (s.cavityReport i c) (28 + 22 * k.val + passOffset j) = v % 2 ^ 32 :=
  u32At_of_field (cavityReport_passField s i c k h)

theorem cavityReport_tag : u32At (s.cavityReport i c) 1 = c.tag.toNat :=
  (u32At_of_field (cavityReport_field s i c (j := 1) rfl)).trans (Nat.mod_eq_of_lt c.tag.isLt)

/-- A start hole within the coordinate range reads back. -/
theorem cavityReport_hole (inside : c.hole.inRange = true) :
    s32At (s.cavityReport i c) 5 = c.hole.x ∧ s32At (s.cavityReport i c) 9 = c.hole.y := by
  obtain ⟨xLow, xHigh, yLow, yHigh⟩ := (inRange_iff c.hole).1 inside
  exact ⟨s32At_of_field (cavityReport_field s i c (j := 2) rfl) (by omega) (by omega),
    s32At_of_field (cavityReport_field s i c (j := 3) rfl) (by omega) (by omega)⟩

/-- The P and H that the report carries for pass `k` (R178). -/
theorem cavityReport_passPH (k : PassIx) {p h : Nat} (values : s.passPH i k c.passes[k] = (p, h)) :
    u32At (s.cavityReport i c) (28 + 22 * k.val + 10) = p % 2 ^ 32 ∧
      u32At (s.cavityReport i c) (28 + 22 * k.val + 14) = h % 2 ^ 32 := by
  have pAt := u32At_cavityReport_pass s i c k (j := 4) rfl
  have hAt := u32At_cavityReport_pass s i c k (j := 5) rfl
  rw [values] at pAt hAt
  exact ⟨pAt, hAt⟩

end report

/-! #### The request -/

section query

variable {s : State} {tag i : Byte} (decides : s.decides 0x2B#8 tag [i] = true) (quiet : s.quiet)
include decides quiet

theorem exec_cavityQuery_of_out (out : 64 ≤ i.toNat) :
    exec (.cavityQuery tag [i]) s = .next (s.replied 0x2B#8 tag .badField []) :=
  State.request_refused decides rfl (by simp only [byteAt_singleton, indexOf_of_le out]) quiet

theorem exec_cavityQuery_of_absent {k : CavityId} (id : i.toNat = k.val) (absent : s.cavity k = none) :
    exec (.cavityQuery tag [i]) s = .next (s.replied 0x2B#8 tag .noCavity []) := by
  have unheld : s.popRequest.cavity k = none := absent
  exact State.request_refused decides rfl (by simp only [byteAt_singleton, indexOf_of_eq k id, unheld]) quiet

theorem exec_cavityQuery_of_record {k : CavityId} {c : Cavity} (id : i.toNat = k.val) (record : s.cavity k = some c) :
    exec (.cavityQuery tag [i]) s = .next (s.replied 0x2B#8 tag .ok (s.cavityReport k c)) := by
  have held : s.popRequest.cavity k = some c := record
  exact State.request_answered (a := ⟨s.popRequest, .ok, s.popRequest.cavityReport k c⟩) decides rfl
    (by simp only [byteAt_singleton, indexOf_of_eq k id, held]) quiet

end query

/-- Settles O26: the report's fields stand at the offsets of chapter 11.5, those of a pass record behind the record's offset, and
each reads back. -/
theorem cavityQueryReports : Obligations.CavityQueryReports := by
  intro s tag i decides quiet
  refine ⟨exec_cavityQuery_of_out decides quiet, fun k id =>
    ⟨exec_cavityQuery_of_absent decides quiet id, fun c record => ?_⟩⟩
  intro methodCode stateCode faultCode
  have method (m : Method) : m.code % 256 = methodCode m := by cases m <;> rfl
  have field {j v : Nat} := byteAt_cavityReport s k c (j := j) (v := v)
  refine ⟨s.cavityReport k c, exec_cavityQuery_of_record decides quiet id record, cavityReport_length s k c,
    ⟨(field (j := 0) rfl).trans (Nat.mod_eq_of_lt (by omega)), cavityReport_tag s k c, cavityReport_hole s k c,
      (field (j := 4) rfl).trans (Nat.mod_eq_of_lt (by omega)), (field (j := 5) rfl).trans (method c.planned),
      (field (j := 6) rfl).trans ?effective, field (j := 7) rfl, (field (j := 8) rfl).trans (Nat.mod_eq_of_lt (by omega)),
      (field (j := 9) rfl).trans ?state, (field (j := 10) rfl).trans (Nat.mod_eq_of_lt (by omega)), field (j := 11) rfl,
      field (j := 12) rfl, (field (j := 13) rfl).trans ?fault,
      (u32At_of_field (cavityReport_field s k c (j := 14) rfl)).trans ?bridgeLength, (field (j := 15) rfl).trans ?selected⟩,
    fun p => ⟨(byteAt_of_field (cavityReport_passField s k c p (j := 0) rfl)).trans ?pass,
      (byteAt_of_field (cavityReport_passField s k c p (j := 1) rfl)).trans (passFlags_mod _ _),
      u32At_cavityReport_pass s k c p (j := 2) rfl, (u32At_cavityReport_pass s k c p (j := 3) rfl).trans ?hold,
      fun present => cavityReport_passPH s k c p (passPH_of_present _ present),
      fun absent => cavityReport_passPH s k c p (passPH_of_not_present _ absent),
      u32At_cavityReport_pass s k c p (j := 6) rfl⟩⟩
  case effective =>
    cases c.effective with
    | none => rfl
    | some m => exact method m
  case state =>
    simp only [stateCode]
    cases c.state <;> rfl
  case fault =>
    simp only [faultCode]
    cases c.fault with
    | none => rfl
    | some r => cases r <;> rfl
  case bridgeLength => cases c.bridgeLength <;> rfl
  case selected => cases c.sepSelected <;> rfl
  case pass => cases (c.passes[p]).state <;> rfl
  case hold => cases (c.passes[p]).chain.holdOffset <;> rfl

end Sys2Proof.Machine

namespace Sys2Proof.Machine

/-! ### The log, the clock and the notice queue (O55) -/

theorem LogRecord.encode_length (r : LogRecord) : r.encode.length = 14 := by
  simp only [LogRecord.encode, List.length_append, enc8_length, enc16_length, enc32_length]

/-- What LOG_READ answers counts what it takes and what it leaves (R176). -/
theorem logReadData_take_drop (log : List LogRecord) (n : Nat) :
    logReadData (log.take n) (log.drop n) =
      enc8 (min n log.length) ++ enc16 (log.length - n) ++ ((log.take n).map LogRecord.encode).flatten := by
  rw [logReadData, List.length_take, List.length_drop]

section read

variable {s : State} {tag n : Byte} (decides : s.decides 0x51#8 tag [n] = true) (quiet : s.quiet)
include decides quiet

theorem exec_logRead_of_out (out : n.toNat = 0 ∨ 8 < n.toNat) :
    exec (.logRead tag [n]) s = .next (s.replied 0x51#8 tag .badField []) := by
  have barred : ¬ within 1 8 n.toNat = true := by
    simp only [within, Bool.and_eq_true, decide_eq_true_eq]
    omega
  exact State.request_refused decides rfl (by simp only [byteAt_singleton]; exact if_neg barred) quiet

theorem exec_logRead_of_within (low : 1 ≤ n.toNat) (high : n.toNat ≤ 8) :
    exec (.logRead tag [n]) s =
      .next
        (State.replied { s with log := s.log.drop n.toNat } 0x51#8 tag .ok
          (enc8 (min n.toNat s.log.length) ++ enc16 (s.log.length - n.toNat) ++
            ((s.log.take n.toNat).map LogRecord.encode).flatten)) := by
  have permitted : within 1 8 n.toNat = true := by
    simp only [within, Bool.and_eq_true, decide_eq_true_eq]
    exact ⟨low, high⟩
  rw [← logReadData_take_drop]
  exact State.request_answered
    (a := ⟨s.popRequest.updLog (List.drop n.toNat), .ok, logReadData (s.log.take n.toNat) (s.log.drop n.toNat)⟩) decides rfl
    (by simp only [byteAt_singleton]; exact if_pos permitted) quiet

end read

/-- A record joins the tail of a log that is not full (R175). -/
theorem pushLog_of_room {log : List LogRecord} (room : log.length < 256) (r : LogRecord) : pushLog log r = log ++ [r] :=
  if_pos room

/-- A full log loses its oldest record, and the next is flagged (R175). -/
theorem pushLog_of_full {first second : LogRecord} {rest : List LogRecord}
    (full : (first :: second :: rest).length = 256) (r : LogRecord) :
    pushLog (first :: second :: rest) r = { second with discontinuity := true } :: rest ++ [r] :=
  if_neg (Nat.not_lt_of_le (Nat.le_of_eq full.symm))

theorem exec_clockSet {s : State} {tag : Byte} {payload : List Byte} (length : payload.length = 4)
    (decides : s.decides 0x50#8 tag payload = true) (quiet : s.quiet) :
    exec (.clockSet tag payload) s =
      .next (State.replied { s with clock := BitVec.ofNat 32 (u32At payload 0) } 0x50#8 tag .ok []) :=
  State.request_answered (a := (s.popRequest.updClock fun _ => BitVec.ofNat 32 (u32At payload 0)).accept) decides
    (by rw [length]; rfl) rfl quiet

theorem exec_jobClockAdvance {s : State} (operating : s.operating = true) :
    exec .jobClockAdvance s = .next { s with clock := s.clock + 1 } :=
  State.whenOperating_of operating fun s => s.updClock fun c => c + 1

/-! #### A notice offered to the queue (R9) -/

theorem any_isProgress_iff (q : List Notice) : q.any Notice.isProgress = true ↔ ∃ x, Notice.progress x ∈ q := by
  rw [List.any_eq_true]
  constructor
  · rintro ⟨m, queued, progress⟩
    cases m with
    | progress x => exact ⟨x, queued⟩
    | event code content => cases progress
  · rintro ⟨x, queued⟩
    exact ⟨_, queued, rfl⟩

/-- A notice that replaces none joins a queue with room, and no other (R9). -/
theorem offerNotice_of_not_replacing {q : List Notice} {n : Notice}
    (joins : (n.isProgress && q.any Notice.isProgress) = false) :
    offerNotice q n = if q.length < 16 then q ++ [n] else q := by
  rw [offerNotice, joins, if_neg Bool.false_ne_true]
  rfl

/-- Where no PROGRESS notice is queued, a PROGRESS notice replaces none. -/
theorem progress_not_replacing {q : List Notice} (absent : ∀ old, Notice.progress old ∉ q) (p : ProgressContent) :
    ((Notice.progress p).isProgress && q.any Notice.isProgress) = false := by
  refine Bool.eq_false_iff.2 fun replaces => ?_
  obtain ⟨old, queued⟩ := (any_isProgress_iff q).1 (Bool.and_eq_true_iff.1 replaces).2
  exact absent old queued

/-- Replacing the PROGRESS notices changes nothing in a list without one. -/
theorem replaceProgress_eq_self {q : List Notice} (absent : ∀ old, Notice.progress old ∉ q) (n : Notice) :
    (q.map fun m => if m.isProgress then n else m) = q := by
  refine (List.map_congr_left fun m queued => ?_).trans (List.map_id q)
  cases m with
  | progress x => exact absurd queued (absent x)
  | event code content => rfl

/-- A PROGRESS notice takes the place of the one queued (R9). -/
theorem offerNotice_progress_replaces {before after : List Notice} (old p : ProgressContent)
    (clearBefore : ∀ x, Notice.progress x ∉ before) (clearAfter : ∀ x, Notice.progress x ∉ after) :
    offerNotice (before ++ .progress old :: after) (.progress p) = before ++ .progress p :: after := by
  have queued : (before ++ .progress old :: after).any Notice.isProgress = true :=
    (any_isProgress_iff _).2 ⟨old, List.mem_append_right _ List.mem_cons_self⟩
  rw [offerNotice, queued]
  refine (if_pos rfl).trans ?_
  rw [List.map_append, List.map_cons, replaceProgress_eq_self clearBefore, replaceProgress_eq_self clearAfter]
  rfl

/-- Settles O55: a read takes and leaves the parts of the log, and an offered notice either replaces the one PROGRESS notice or
joins where there is room. -/
theorem clockLogAndQueuesKeepOrder : Obligations.ClockLogAndQueuesKeepOrder := by
  refine ⟨fun s tag n decides quiet => ⟨exec_logRead_of_out decides quiet, fun low high =>
      ⟨exec_logRead_of_within decides quiet low high, LogRecord.encode_length⟩⟩,
    fun log r => ⟨fun room => pushLog_of_room room r, ?_⟩, fun s tag payload => exec_clockSet,
    fun s => exec_jobClockAdvance, rfl, fun q code content p => ⟨fun room => ?_, fun full => ?_, fun absent room => ?_,
      fun absent full => ?_, ?_⟩⟩
  · rintro first second rest rfl full
    rw [pushLog_of_full full]
    exact ⟨rfl, by simpa using full⟩
  · exact (offerNotice_of_not_replacing rfl).trans (if_pos room)
  · exact (offerNotice_of_not_replacing rfl).trans (if_neg (Nat.not_lt_of_le full))
  · exact (offerNotice_of_not_replacing (progress_not_replacing absent p)).trans (if_pos room)
  · exact (offerNotice_of_not_replacing (progress_not_replacing absent p)).trans (if_neg (Nat.not_lt_of_le full))
  · rintro before after old rfl clearBefore clearAfter
    exact offerNotice_progress_replaces old p clearBefore clearAfter

end Sys2Proof.Machine

namespace Sys2Proof.Machine

/-! ### The configuration records (O15, chapter 11.4) -/

/-! #### Reading a field within its width -/

section fields

variable {bs : List Byte} {n : Nat}

/-- An s16 field reads back where the value lies within its width. -/
theorem s16At_of_field {i : Int} (field : encS16 i <+: bs.drop n) (low : -2 ^ 15 ≤ i) (high : i < 2 ^ 15) :
    s16At bs n = i := by
  rw [s16At, u16At_of_field field, Nat.mod_eq_of_lt (BitVec.isLt _), BitVec.ofNat_toNat, BitVec.setWidth_eq,
    BitVec.toInt_ofInt]
  exact Int.bmod_eq_of_le (by omega) (by omega)

/-- The offset of field `k` of a record: the lengths of the fields before it. -/
def fieldOffset (fields : List (List Byte)) (k : Nat) : Nat := ((fields.map List.length).take k).sum

variable {fields : List (List Byte)} (record : fields.flatten <+: bs.drop n) {k : Nat}
include record

/-- A field of a record that stands at `n` stands behind `n` and the fields before it. -/
theorem field_of_record {field : List Byte} (h : fields[k]? = some field) : field <+: bs.drop (n + fieldOffset fields k) :=
  field_of_part record (field_of_flatten h)

theorem byteAt_of_record {v : Nat} (h : fields[k]? = some (enc8 v)) (fits : v < 2 ^ 8) :
    byteAt bs (n + fieldOffset fields k) = v :=
  (byteAt_of_field (field_of_record record h)).trans (Nat.mod_eq_of_lt fits)

theorem u16At_of_record {v : Nat} (h : fields[k]? = some (enc16 v)) (fits : v < 2 ^ 16) :
    u16At bs (n + fieldOffset fields k) = v :=
  (u16At_of_field (field_of_record record h)).trans (Nat.mod_eq_of_lt fits)

end fields

/-! #### Machine limits -/

/-- The fields of the limits record in their order. -/
def Limits.fields (l : Limits) : List (List Byte) :=
  [enc16 l.feedCeil, enc16 l.retraceCeil, enc8 l.jetCeil, enc16 l.annealCeil, enc16 l.rapidCeil, enc8 l.attemptCeil]

theorem Limits.encode_eq (l : Limits) : l.encode = l.fields.flatten := rfl

theorem Limits.encode_length (l : Limits) : l.encode.length = 10 := rfl

/-- A payload that begins with a limits record reads back as that record (R13). -/
theorem parseLimits_of_record {bs : List Byte} {l : Limits} (valid : l.valid = true) (record : l.encode <+: bs) :
    parseLimits bs = l := by
  obtain ⟨feed, retrace, jet, anneal, rapid, attempt⟩ := (Limits.valid_iff l).1 valid
  have record : l.fields.flatten <+: bs.drop 0 := l.encode_eq ▸ record
  have feedCeil : u16At bs 0 = l.feedCeil := u16At_of_record record (k := 0) rfl (by omega)
  have retraceCeil : u16At bs 2 = l.retraceCeil := u16At_of_record record (k := 1) rfl (by omega)
  have jetCeil : byteAt bs 4 = l.jetCeil := byteAt_of_record record (k := 2) rfl (by omega)
  have annealCeil : u16At bs 5 = l.annealCeil := u16At_of_record record (k := 3) rfl (by omega)
  have rapidCeil : u16At bs 7 = l.rapidCeil := u16At_of_record record (k := 4) rfl (by omega)
  have attemptCeil : byteAt bs 9 = l.attemptCeil := byteAt_of_record record (k := 5) rfl (by omega)
  rw [parseLimits, feedCeil, retraceCeil, jetCeil, annealCeil, rapidCeil, attemptCeil]

/-! #### Feed class -/

theorem FeedClass.valid_iff (c : FeedClass) :
    c.valid = true ↔
      (1 ≤ c.cap ∧ c.cap ≤ 400) ∧ (1 ≤ c.accel ∧ c.accel ≤ 100) ∧ (1 ≤ c.retract ∧ c.retract ≤ 400) ∧ c.energy ≤ 15 ∧
        c.theta ≤ 2000 := by
  simp [FeedClass.valid, within, and_assoc]

/-- The fields of a feed class record in their order. -/
def FeedClass.fields (c : FeedClass) : List (List Byte) :=
  [enc16 c.cap, enc8 c.accel, enc16 c.retract, enc8 c.energy, enc16 c.theta]

theorem FeedClass.encode_eq (c : FeedClass) : c.encode = c.fields.flatten := rfl

theorem FeedClass.encode_length (c : FeedClass) : c.encode.length = 8 := rfl

/-- A feed class record reads back wherever it stands in a payload (R64). -/
theorem parseFeedClass_of_record {bs : List Byte} {n : Nat} {c : FeedClass} (valid : c.valid = true)
    (record : c.encode <+: bs.drop n) : parseFeedClass bs n = c := by
  obtain ⟨capRange, accelRange, retractRange, energyRange, thetaRange⟩ := (FeedClass.valid_iff c).1 valid
  rw [FeedClass.encode_eq] at record
  have cap : u16At bs n = c.cap := u16At_of_record record (k := 0) rfl (by omega)
  have accel : byteAt bs (n + 2) = c.accel := byteAt_of_record record (k := 1) rfl (by omega)
  have retract : u16At bs (n + 3) = c.retract := u16At_of_record record (k := 2) rfl (by omega)
  have energy : byteAt bs (n + 5) = c.energy := byteAt_of_record record (k := 3) rfl (by omega)
  have theta : u16At bs (n + 6) = c.theta := u16At_of_record record (k := 4) rfl (by omega)
  rw [parseFeedClass, cap, accel, retract, energy, theta]

/-! #### Threading profile -/

theorem Profile.valid_iff (p : Profile) :
    p.valid = true ↔
      p.anneal ≤ 2000 ∧ (20 ≤ p.trim ∧ p.trim ≤ 200) ∧ p.jetBase ≤ 7 ∧ p.jetStep ≤ 3 ∧
        (100 ≤ p.passTimeout ∧ p.passTimeout ≤ 8000) ∧ (1 ≤ p.attempts ∧ p.attempts ≤ 15) ∧
        (100 ≤ p.tensionTimeout ∧ p.tensionTimeout ≤ 2000) ∧ (50 ≤ p.withdraw ∧ p.withdraw ≤ 2000) ∧
        p.kerfAttempts ≤ 7 ∧ p.kerfJet ≤ 7 := by
  simp [Profile.valid, within, and_assoc]

/-- The search offset pairs of a profile record, 4 bytes each. -/
def encOffsets (ps : List Point) : List Byte := (ps.map fun o => encS16 o.x ++ encS16 o.y).flatten

theorem encOffsets_cons (o : Point) (ps : List Point) :
    encOffsets (o :: ps) = [encS16 o.x, encS16 o.y, encOffsets ps].flatten := by
  simp [encOffsets]

theorem encOffsets_length (ps : List Point) : (encOffsets ps).length = 4 * ps.length := by
  induction ps with
  | nil => rfl
  | cons o ps ih =>
    simp only [encOffsets_cons, List.flatten_cons, List.flatten_nil, List.append_nil, List.length_append, encS16_length, ih,
      List.length_cons]
    omega

/-- A point whose coordinates each fit an s16 field. -/
def FitsS16 (o : Point) : Prop := -32768 ≤ o.x ∧ o.x ≤ 32767 ∧ -32768 ≤ o.y ∧ o.y ≤ 32767

/-- Offset pairs read back wherever they stand in a payload. -/
theorem parseOffsets_of_record {bs : List Byte} {n : Nat} {ps : List Point} (fits : ∀ o ∈ ps, FitsS16 o)
    (record : encOffsets ps <+: bs.drop n) : parseOffsets bs n ps.length = ps := by
  induction ps generalizing n with
  | nil => rfl
  | cons o ps ih =>
    obtain ⟨⟨xLow, xHigh, yLow, yHigh⟩, fits⟩ := List.forall_mem_cons.1 fits
    rw [encOffsets_cons] at record
    have x : s16At bs n = o.x := s16At_of_field (field_of_record record (k := 0) rfl) (by omega) (by omega)
    have y : s16At bs (n + 2) = o.y := s16At_of_field (field_of_record record (k := 1) rfl) (by omega) (by omega)
    have rest : parseOffsets bs (n + 4) ps.length = ps := ih fits (field_of_record record (k := 2) rfl)
    rw [List.length_cons, parseOffsets, x, y, rest]

/-- The fields of a profile record in their order, the offset pairs as one. -/
def Profile.fields (p : Profile) : List (List Byte) :=
  [enc16 p.anneal, enc8 p.trim, enc8 p.jetBase, enc8 p.jetStep, enc16 p.passTimeout, enc8 p.attempts,
    enc16 p.tensionTimeout, enc16 p.withdraw, enc8 p.kerfAttempts, enc8 p.kerfJet, encOffsets p.offsets]

theorem Profile.encode_eq (p : Profile) : p.encode = p.fields.flatten := by
  simp only [Profile.encode, Profile.fields, encOffsets, List.flatten_cons, List.flatten_nil, List.append_nil,
    List.append_assoc]

theorem Profile.encode_length (p : Profile) : p.encode.length = 14 + 4 * p.offsets.length := by
  rw [Profile.encode, List.length_append, ← encOffsets, encOffsets_length]
  rfl

/-- A profile record reads back wherever it stands in a payload (R103, R104). -/
theorem parseProfile_of_record {bs : List Byte} {n : Nat} {p : Profile} (valid : p.valid = true)
    (fits : ∀ o ∈ p.offsets, FitsS16 o) (record : p.encode <+: bs.drop n) : parseProfile bs n p.offsets.length = p := by
  obtain ⟨annealRange, trimRange, jetBaseRange, jetStepRange, passRange, attemptsRange, tensionRange, withdrawRange,
    kerfRange, kerfJetRange⟩ := (Profile.valid_iff p).1 valid
  rw [Profile.encode_eq] at record
  have anneal : u16At bs n = p.anneal := u16At_of_record record (k := 0) rfl (by omega)
  have trim : byteAt bs (n + 2) = p.trim := byteAt_of_record record (k := 1) rfl (by omega)
  have jetBase : byteAt bs (n + 3) = p.jetBase := byteAt_of_record record (k := 2) rfl (by omega)
  have jetStep : byteAt bs (n + 4) = p.jetStep := byteAt_of_record record (k := 3) rfl (by omega)
  have passTimeout : u16At bs (n + 5) = p.passTimeout := u16At_of_record record (k := 4) rfl (by omega)
  have attempts : byteAt bs (n + 7) = p.attempts := byteAt_of_record record (k := 5) rfl (by omega)
  have tensionTimeout : u16At bs (n + 8) = p.tensionTimeout := u16At_of_record record (k := 6) rfl (by omega)
  have withdraw : u16At bs (n + 10) = p.withdraw := u16At_of_record record (k := 7) rfl (by omega)
  have kerfAttempts : byteAt bs (n + 12) = p.kerfAttempts := byteAt_of_record record (k := 8) rfl (by omega)
  have kerfJet : byteAt bs (n + 13) = p.kerfJet := byteAt_of_record record (k := 9) rfl (by omega)
  have offsets : parseOffsets bs (n + 14) p.offsets.length = p.offsets :=
    parseOffsets_of_record fits (field_of_record record (k := 10) rfl)
  rw [parseProfile, anneal, trim, jetBase, jetStep, passTimeout, attempts, tensionTimeout, withdraw, kerfAttempts, kerfJet,
    offsets]

/-! #### Job parameters -/

theorem FaultPolicy.code_lt (f : FaultPolicy) : f.code < 256 := by cases f <;> decide
theorem SeparationPolicy.code_lt (p : SeparationPolicy) : p.code < 256 := by cases p <;> decide
theorem ResumePolicy.code_lt (r : ResumePolicy) : r.code < 256 := by cases r <;> decide

@[simp] theorem faultPolicyOf_code (f : FaultPolicy) : faultPolicyOf f.code = some f := by cases f <;> rfl
@[simp] theorem separationPolicyOf_code (p : SeparationPolicy) : separationPolicyOf p.code = some p := by cases p <;> rfl
@[simp] theorem resumePolicyOf_code (r : ResumePolicy) : resumePolicyOf r.code = some r := by cases r <;> rfl

/-- The ranges of the seven values of the parameter record (R19). -/
structure JobParams.InRange (p : JobParams) : Prop where
  retrace : 1000 ≤ p.retrace ∧ p.retrace ≤ 50000
  drySpeed : 1 ≤ p.drySpeed ∧ p.drySpeed ≤ 2000
  rapidSpeed : 1 ≤ p.rapidSpeed ∧ p.rapidSpeed ≤ 3000
  clampWait : 100 ≤ p.clampWait ∧ p.clampWait ≤ 10000
  breakLimit : 1 ≤ p.breakLimit ∧ p.breakLimit ≤ 15
  heartbeat : p.heartbeat = 0 ∨ 100 ≤ p.heartbeat ∧ p.heartbeat ≤ 5000
  pacing : 5 ≤ p.pacing ∧ p.pacing ≤ 1000

/-- The range test of `parseJobParams` holds of values within their ranges. -/
theorem JobParams.InRange.test {p : JobParams} (ranges : p.InRange) :
    (within 1000 50000 p.retrace && within 1 2000 p.drySpeed && within 1 3000 p.rapidSpeed &&
        within 100 10000 p.clampWait && within 1 15 p.breakLimit && (p.heartbeat == 0 || within 100 5000 p.heartbeat) &&
        within 5 1000 p.pacing) = true := by
  simp only [within, Bool.and_eq_true, Bool.or_eq_true, beq_iff_eq, decide_eq_true_eq]
  exact ⟨⟨⟨⟨⟨⟨ranges.retrace, ranges.drySpeed⟩, ranges.rapidSpeed⟩, ranges.clampWait⟩, ranges.breakLimit⟩,
    ranges.heartbeat⟩, ranges.pacing⟩

/-- The fields of the parameter record in their order. -/
def JobParams.fields (p : JobParams) : List (List Byte) :=
  [enc8 p.faultPolicy.code, enc8 p.separationPolicy.code, enc8 p.resumePolicy.code, enc16 p.retrace, enc16 p.drySpeed,
    enc16 p.rapidSpeed, enc16 p.clampWait, enc8 p.breakLimit, enc16 p.heartbeat, enc16 p.pacing]

theorem JobParams.encode_eq (p : JobParams) : p.encode = p.fields.flatten := rfl

theorem JobParams.encode_length (p : JobParams) : p.encode.length = 16 := rfl

/-- A payload that begins with a parameter record reads back as that record (R19). -/
theorem parseJobParams_of_record {bs : List Byte} {p : JobParams} (ranges : p.InRange) (record : p.encode <+: bs) :
    parseJobParams bs = some p := by
  have ⟨retraceRange, dryRange, rapidRange, clampRange, breakRange, heartbeatRange, pacingRange⟩ := ranges
  have record : p.fields.flatten <+: bs.drop 0 := p.encode_eq ▸ record
  have fault : byteAt bs 0 = p.faultPolicy.code := byteAt_of_record record (k := 0) rfl (FaultPolicy.code_lt _)
  have separation : byteAt bs 1 = p.separationPolicy.code :=
    byteAt_of_record record (k := 1) rfl (SeparationPolicy.code_lt _)
  have resume : byteAt bs 2 = p.resumePolicy.code := byteAt_of_record record (k := 2) rfl (ResumePolicy.code_lt _)
  have retrace : u16At bs 3 = p.retrace := u16At_of_record record (k := 3) rfl (by omega)
  have drySpeed : u16At bs 5 = p.drySpeed := u16At_of_record record (k := 4) rfl (by omega)
  have rapidSpeed : u16At bs 7 = p.rapidSpeed := u16At_of_record record (k := 5) rfl (by omega)
  have clampWait : u16At bs 9 = p.clampWait := u16At_of_record record (k := 6) rfl (by omega)
  have breakLimit : byteAt bs 11 = p.breakLimit := byteAt_of_record record (k := 7) rfl (by omega)
  have heartbeat : u16At bs 12 = p.heartbeat := u16At_of_record record (k := 8) rfl (by omega)
  have pacing : u16At bs 14 = p.pacing := u16At_of_record record (k := 9) rfl (by omega)
  simp only [parseJobParams, fault, separation, resume, faultPolicyOf_code, separationPolicyOf_code, resumePolicyOf_code,
    retrace, drySpeed, rapidSpeed, clampWait, breakLimit, heartbeat, pacing]
  exact if_pos ranges.test

/-- Settles O15: each field of a record reads back at its offset, and so does the record; a record after an index byte stands
at offset 1. -/
theorem recordsReadBackAsWritten : Obligations.RecordsReadBackAsWritten := by
  exact ⟨fun l valid => ⟨parseLimits_of_record valid (List.prefix_refl _), l.encode_length⟩,
    fun i c valid => ⟨parseFeedClass_of_record valid (List.prefix_refl _), c.encode_length⟩,
    fun i p valid fits => ⟨parseProfile_of_record valid fits (List.prefix_refl _), p.encode_length⟩,
    fun p retrace dry rapid clamp breaks heartbeat pacing =>
      ⟨parseJobParams_of_record ⟨retrace, dry, rapid, clamp, breaks, heartbeat, pacing⟩ (List.prefix_refl _),
        p.encode_length⟩⟩

end Sys2Proof.Machine

namespace Sys2Proof.Machine

/-! ### The queue (O1) -/

/-- Settles O1: the queue is not empty, so `step` takes its first branch, for every command alike. -/
theorem frontCommandIsExecuted : Obligations.FrontCommandIsExecuted := by
  intro c rest s queue
  unfold step
  rw [queue]

end Sys2Proof.Machine
